-- ==== Sys2Proof/Word.lean ====
section
/-! DEFINITION. The word types: a register is 32 bits (10_state.md R21), the serial data width is eight bits
(R28), a format-B transaction word is 36 bits (30_encoding.md R91). Bit 0 is the least significant bit and every
value is unsigned (00_scope.md R11). -/

namespace Sys2Proof

/-- The contents of one register, and the value a bus transaction moves (20_memory.md R62). -/
abbrev Word := BitVec 32

/-- One serial byte or character (00_scope.md R17). -/
abbrev Byte := BitVec 8

/-- One format-B transaction word (30_encoding.md R91). -/
abbrev TxnWord := BitVec 36

end Sys2Proof
end

