-- ==== Sys2Proof/Syntax.lean ====
section
/-! DEFINITION. The instructions: the sixteen bus transactions of format B and the ten driver operations of
format S (30_encoding.md R90, R104, R110), one constructor for each row of the opcode table. -/

namespace Sys2Proof

/-- The eight registers of the block, in the order of their ids (10_state.md R21, 30_encoding.md R92). -/
inductive Reg where
  | modeLo | modeHi | out | stat | data | baud | ctrl | clken
deriving DecidableEq, Repr

/-- The operand `which` of `enable_clock`: a peripheral with a modelled clock-enable bit (R94, R165). -/
inductive Periph where
  | gpio | uart
deriving DecidableEq, Repr

/-- A pin mode the source names (10_state.md R25): input-floating, output-push-pull,
alternate-function-push-pull. -/
inductive PinMode where
  | inFloat | outPp | afPp
deriving DecidableEq, Repr

/-- The operand `level` of `write` (30_encoding.md R94, R99): `low` is 0, `high` is 1. -/
inductive Level where
  | low | high
deriving DecidableEq, Repr

/-- The instructions. The operand of a write transaction is its 32-bit `data` field (R91). A pin index is a plain
number here and `Instr.wellFormed` asks that it be in 0..15 (R94). -/
inductive Instr where
  /-- `RD MODE_LO`, R120. -/
  | rdModeLo
  /-- `WR MODE_LO, v`, R121. -/
  | wrModeLo (v : Word)
  /-- `RD MODE_HI`, R122. -/
  | rdModeHi
  /-- `WR MODE_HI, v`, R123. -/
  | wrModeHi (v : Word)
  /-- `RD OUT`, R124. -/
  | rdOut
  /-- `WR OUT, v`, R125. -/
  | wrOut (v : Word)
  /-- `RD STAT`, R126. -/
  | rdStat
  /-- `WR STAT, v`, R127. -/
  | wrStat (v : Word)
  /-- `RD DATA`, R128. -/
  | rdData
  /-- `WR DATA, v`, R129. -/
  | wrData (v : Word)
  /-- `RD BAUD`, R130. -/
  | rdBaud
  /-- `WR BAUD, v`, R131. -/
  | wrBaud (v : Word)
  /-- `RD CTRL`, R132. -/
  | rdCtrl
  /-- `WR CTRL, v`, R133. -/
  | wrCtrl (v : Word)
  /-- `RD CLKEN`, R134. -/
  | rdClken
  /-- `WR CLKEN, v`, R135. -/
  | wrClken (v : Word)
  /-- `enable_clock(which)`, R165. -/
  | enableClock (which : Periph)
  /-- `set_pin_mode(pin, mode)`, R170. -/
  | setPinMode (pin : Nat) (mode : PinMode)
  /-- `toggle(pin)`, R173. -/
  | toggle (pin : Nat)
  /-- `write(pin, level)`, R175. -/
  | write (pin : Nat) (level : Level)
  /-- `uart_init(baud, clock_frequency)`, R185. -/
  | uartInit (baud clockFrequency : Word)
  /-- `send_byte(byte)`, R190. -/
  | sendByte (byte : Byte)
  /-- `recv_byte()`, R192. -/
  | recvByte
  /-- `send_string(s)`, R205. -/
  | sendString (s : List Byte)
  /-- `send_unsigned_decimal(n)`, R206. -/
  | sendUnsignedDecimal (n : Word)
  /-- `busy_wait(iterations)`, R208. -/
  | busyWait (iterations : Word)
deriving DecidableEq, Repr

end Sys2Proof
end

