-- ==== Sys2Proof/Decode.lean ====
section
/-! DEFINITION. Format B: the decoder, total on 36-bit words, the decoder of an arbitrary number, which rejects by
name what is no 36-bit word, and the encoder (30_encoding.md R90 to R93, R104). Format S has no binary encoding
(R90, R94), so the encoder answers nothing for a driver operation. -/

namespace Sys2Proof

/-- The register with a given id (R92): all eight values of `reg` are used. -/
def regOfId (id : BitVec 3) : Reg :=
  match id.toNat with
  | 0 => .modeLo
  | 1 => .modeHi
  | 2 => .out
  | 3 => .stat
  | 4 => .data
  | 5 => .baud
  | 6 => .ctrl
  | _ => .clken

/-- The id of a register (R92). -/
def regId : Reg → BitVec 3
  | .modeLo => 0
  | .modeHi => 1
  | .out => 2
  | .stat => 3
  | .data => 4
  | .baud => 5
  | .ctrl => 6
  | .clken => 7

/-- The transaction `RD X`. -/
def readOf : Reg → Instr
  | .modeLo => .rdModeLo
  | .modeHi => .rdModeHi
  | .out => .rdOut
  | .stat => .rdStat
  | .data => .rdData
  | .baud => .rdBaud
  | .ctrl => .rdCtrl
  | .clken => .rdClken

/-- The transaction `WR X, v`. -/
def writeOf (x : Reg) (v : Word) : Instr :=
  match x with
  | .modeLo => .wrModeLo v
  | .modeHi => .wrModeHi v
  | .out => .wrOut v
  | .stat => .wrStat v
  | .data => .wrData v
  | .baud => .wrBaud v
  | .ctrl => .wrCtrl v
  | .clken => .wrClken v

/-- The instruction of a 36-bit transaction word: bit 35 is `w`, bits 34:32 are `reg`, bits 31:0 are `data`, which
a read ignores (R91, R93). Total: every word is an instruction. -/
def decode (x : TxnWord) : Instr :=
  let reg := regOfId (x.extractLsb' 32 3)
  if x.getLsbD 35 then writeOf reg (x.extractLsb' 0 32) else readOf reg

/-- Why a number is no transaction. -/
inductive DecodeError where
  /-- It needs more than 36 bits: format B has one length (R90). Safe. -/
  | tooWide
deriving DecidableEq, Repr

/-- Decoding of an arbitrary number. -/
def decodeNat (n : Nat) : Except DecodeError Instr :=
  if n < 2 ^ 36 then .ok (decode (BitVec.ofNat 36 n)) else .error .tooWide

/-- The transaction word with the given fields (R91). -/
def txnWord (w : Bool) (x : Reg) (v : Word) : TxnWord := BitVec.ofBool w ++ regId x ++ v

/-- The word of an instruction (R104): `data` of a read is written as zero (R91). A driver operation has no word
(R94). -/
def encode : Instr → Option TxnWord
  | .rdModeLo => some (txnWord false .modeLo 0)
  | .wrModeLo v => some (txnWord true .modeLo v)
  | .rdModeHi => some (txnWord false .modeHi 0)
  | .wrModeHi v => some (txnWord true .modeHi v)
  | .rdOut => some (txnWord false .out 0)
  | .wrOut v => some (txnWord true .out v)
  | .rdStat => some (txnWord false .stat 0)
  | .wrStat v => some (txnWord true .stat v)
  | .rdData => some (txnWord false .data 0)
  | .wrData v => some (txnWord true .data v)
  | .rdBaud => some (txnWord false .baud 0)
  | .wrBaud v => some (txnWord true .baud v)
  | .rdCtrl => some (txnWord false .ctrl 0)
  | .wrCtrl v => some (txnWord true .ctrl v)
  | .rdClken => some (txnWord false .clken 0)
  | .wrClken v => some (txnWord true .clken v)
  | .enableClock _ => none
  | .setPinMode _ _ => none
  | .toggle _ => none
  | .write _ _ => none
  | .uartInit _ _ => none
  | .sendByte _ => none
  | .recvByte => none
  | .sendString _ => none
  | .sendUnsignedDecimal _ => none
  | .busyWait _ => none

/-- The instruction of an opcode-table word of `nbits` bits. A row without bits (format S) has no word. -/
def decodeTableWord (nbits w : Nat) : Option Instr :=
  if nbits = 0 then none else (decodeNat (w % 2 ^ nbits)).toOption

end Sys2Proof
end

