-- ==== Sys2Proof/Config.lean ====
section
/-! DEFINITION. The implementation parameters (00_scope.md R7) and the values the spec leaves free. The parameters
are one record `Cfg`; a state carries the record it runs under, so that a statement about every state is a
statement about every configuration. The device's own record, the free values and the free schedule are opaque: no
proof can see what they are. -/

namespace Sys2Proof

/-- The parameter `SETTLE_MODE` (R7): whether a peripheral whose clock was just enabled needs a settle step before
it answers (41_hardware_steps.md R154). -/
inductive SettleMode where
  | none | nondet
deriving DecidableEq, Repr, Inhabited

/-- The record of 00_scope.md R7, one field per parameter. A bit position is a `Fin 32` and a pin index a
`Fin 16`: those ranges are constraints of the table. -/
structure Cfg where
  addrModeLo : Word
  addrModeHi : Word
  addrOut : Word
  addrStat : Word
  addrData : Word
  addrBaud : Word
  addrCtrl : Word
  addrClken : Word
  clkBitGpio : Fin 32
  clkBitUart : Fin 32
  statTxe : Fin 32
  statRxne : Fin 32
  ctrlRe : Fin 32
  ctrlTe : Fin 32
  ctrlUe : Fin 32
  encInFloat : BitVec 4
  encOutPp : BitVec 4
  encAfPp : BitVec 4
  uartTxPin : Fin 16
  uartRxPin : Fin 16
  baudWidth : Nat
  settleMode : SettleMode
  pinmodeSplit : Bool
  ntasks : Nat
  resetModeLo : Word
  resetModeHi : Word
  resetClken : Word
  resetOut : BitVec 16
deriving DecidableEq, Repr

/-- The eight addresses, in the order of the register ids. -/
def Cfg.addresses (c : Cfg) : List Word :=
  [c.addrModeLo, c.addrModeHi, c.addrOut, c.addrStat, c.addrData, c.addrBaud, c.addrCtrl, c.addrClken]

/-- The constraints of the table of 00_scope.md R7. -/
abbrev Cfg.Valid (c : Cfg) : Prop :=
  (c.addresses.all fun a => a.toNat % 4 == 0) = true ∧
  c.addresses.Nodup ∧
  c.clkBitGpio ≠ c.clkBitUart ∧
  c.statTxe ≠ c.statRxne ∧
  (c.ctrlRe ≠ c.ctrlTe ∧ c.ctrlRe ≠ c.ctrlUe ∧ c.ctrlTe ≠ c.ctrlUe) ∧
  (c.encInFloat ≠ c.encOutPp ∧ c.encInFloat ≠ c.encAfPp ∧ c.encOutPp ≠ c.encAfPp) ∧
  c.uartTxPin ≠ c.uartRxPin ∧
  (1 ≤ c.baudWidth ∧ c.baudWidth ≤ 32) ∧
  1 ≤ c.ntasks ∧
  (c.resetClken.getLsbD c.clkBitGpio = false ∧ c.resetClken.getLsbD c.clkBitUart = false)

/-- A configuration that meets the constraints, the arbitrary one of 95_test_vectors.md section 1 (`ALT`). It
stands here only to show that the constraints can be met; the device is not it. -/
def Cfg.alt : Cfg where
  addrModeLo := 0x00001000
  addrModeHi := 0x00001004
  addrOut := 0x00001008
  addrStat := 0x00002000
  addrData := 0x00002004
  addrBaud := 0x00002008
  addrCtrl := 0x0000200C
  addrClken := 0x00003000
  clkBitGpio := 0
  clkBitUart := 31
  statTxe := 0
  statRxne := 31
  ctrlRe := 0
  ctrlTe := 1
  ctrlUe := 2
  encInFloat := 0x1
  encOutPp := 0x2
  encAfPp := 0x3
  uartTxPin := 0
  uartRxPin := 15
  baudWidth := 12
  settleMode := .none
  pinmodeSplit := false
  ntasks := 1
  resetModeLo := 0x89ABCDEF
  resetModeHi := 0x01234567
  resetClken := 0
  resetOut := 0

/-- The constraints can be met. -/
theorem Cfg.alt_valid : Cfg.alt.Valid := by decide

/-- A target device: a configuration with the proof that it meets the constraints. The defaults only show that
there is one. -/
structure Device where
  cfg : Cfg := Cfg.alt
  valid : cfg.Valid := by exact Cfg.alt_valid
deriving Inhabited

/-- The target device. The source names none and gives no number (00_scope.md R2), so nothing is known of it but
that it meets the constraints. -/
opaque Config.device : Device

/-- A free value: `any value` of 00_scope.md R16, the `k`-th drawn in a run that supplies no draws of its own. -/
opaque Config.anyValue : Nat → Word

/-- The bytes the line peer will send (10_state.md R34), an input of the run. -/
opaque Config.lineInput : List Byte

/-- The agents that take steps (10_state.md R20). A choice the spec leaves to the run is an argument: which byte
survives an overrun (41_hardware_steps.md R152), and whether a byte on a pin that is no input is received (R153). -/
inductive Agent where
  /-- Master `k`. -/
  | master (k : Nat)
  /-- The transmit engine: `TXDRAIN`. -/
  | txDrain
  /-- The receive engine: `RXARRIVE`. -/
  | rxArrive
  /-- The receive engine: `RXOVERRUN`, leaving the new byte or the old one. -/
  | rxOverrun (keepNew : Bool)
  /-- The receive engine: `RXDROP`, which with the receiver on may also receive the byte. -/
  | rxDrop (receive keepNew : Bool)
  /-- `CLKSETTLE` of the GPIO bank. -/
  | settleGpio
  /-- `CLKSETTLE` of the UART. -/
  | settleUart
deriving DecidableEq, Repr, Inhabited

/-- The free schedule: the agent that steps at the `k`-th step for which a run supplies none. Opaque: every
interleaving is a run (41_hardware_steps.md R155). -/
opaque Config.schedule : Nat → Agent

end Sys2Proof
end

