-- ==== Sys2Proof/Machine/State.lean ====
section
/-! DEFINITION. The state of the block and of the masters that use it (10_state.md), the reasons a step can stop,
and the state after reset. Plain data: no field holds a function. The parameters of a run that 10_state.md R45
lists (configuration, programs, line input, schedule, draws) are fields too, so that a statement about every state
quantifies over them. -/

namespace Sys2Proof.Machine

/-- `CTRL`: the triple `(RE, TE, UE)` (10_state.md R30). -/
structure Ctrl where
  re : Bool
  te : Bool
  ue : Bool
deriving DecidableEq, Repr

/-- The temporaries of a running sequence (10_state.md R39), 32 bits each but `buf`: `t` is the word last read, `c` a
character, `n` the number being converted or counted down, `i` and `j` indices, `buf` the conversion buffer of
45_text_and_timing.md R206, R207. The last two are the model's own (DESIGN CHOICE, safe, log entry 21): `left` is what
is left of the string `s`, `entered` whether the UART was `Configured` at the call (R42). -/
structure Temps where
  t : Word
  c : Word
  n : Word
  i : Word
  j : Word
  buf : Vector Byte 11
  left : List Byte
  entered : Bool
deriving DecidableEq, Repr

/-- Temporaries that no step has written. DESIGN CHOICE: the spec says they hold no value (10_state.md R39, R43);
unsafe in itself, but no sequence reads one before it writes it. Log entry 6. -/
def Temps.clear : Temps :=
  { t := 0, c := 0, n := 0, i := 0, j := 0, buf := Vector.replicate 11 0, left := [], entered := false }

/-- One item of a master's program (10_state.md R40): a bus transaction as a word of format B, an instruction, a
bus access by address (00_scope.md R14, 20_memory.md R65), or one of the two forms by which the echo loop uses the
value that `recv_byte` returned (45_text_and_timing.md R209). -/
inductive Slot where
  /-- A transaction given by its 36-bit word. -/
  | word (w : TxnWord)
  /-- A driver operation or a bare transaction. -/
  | op (i : Instr)
  /-- `MemRead(a, size)`. -/
  | memRead (a : Word) (size : Nat)
  /-- `MemWrite(a, size, v)`. -/
  | memWrite (a : Word) (size : Nat) (v : Word)
  /-- `send_byte(c)` with `c` the value last returned. -/
  | sendResult
  /-- `if c = b then i` with `c` the value last returned. -/
  | ifResult (b : Byte) (i : Instr)
deriving DecidableEq, Repr

/-- A master (10_state.md R20, R39, R40): what is left of its program (`todo`, and after it `loop` for ever), the
label of its position inside the running operation, the temporaries, and the value last handed to it. An infinite
program that does not repeat is supplied to `todo` as the run goes on: `Moment.items` in Safety.lean (log entry 4). -/
structure Master where
  todo : List Slot
  loop : List Slot
  label : Nat
  tmp : Temps
  ret : Word
deriving DecidableEq, Repr

/-- A master with no program. -/
def Master.idle : Master := { todo := [], loop := [], label := 0, tmp := Temps.clear, ret := 0 }

/-- The state. The fields are explained, with their rules and reset values, in INVENTORY.md. -/
structure State where
  cfg : Cfg
  modeLo : Word
  modeHi : Word
  out : BitVec 16
  baud : Word
  ctrl : Ctrl
  clken : Word
  txbuf : Option Byte
  rxbuf : Option Byte
  settlingGpio : Bool
  settlingUart : Bool
  baudValid : Bool
  viol : Bool
  txLine : List (Byte × Bool)
  rxIn : List Byte
  rxPos : Nat
  rxLost : Nat
  masters : List Master
  cur : Nat
  sched : List Agent
  ticks : Nat
  draws : List Word
  drawn : Nat
deriving DecidableEq, Repr

/-- Reasons for a fault: none. "The block raises no exception and no trap" (60_exceptions.md R220). -/
inductive Fault
deriving DecidableEq, Repr

/-- Reasons for a refusal: the outcome `refuse` of 00_scope.md R15. All are safe: nothing can be proved of what the
hardware does after one. -/
inductive Refusal where
  /-- `exec`, for an instruction that has no meaning yet. Safe. -/
  | notModelled (mnemonic : String)
  /-- Every driver operation, for operands outside their types (30_encoding.md R94). Safe. -/
  | illFormed
  /-- `WR STAT`, always (40_bus_transactions.md R127). Safe. -/
  | writeStat
  /-- `WR DATA` with a bit of 31:8 set (R106, R129). Safe. -/
  | writeDataReserved
  /-- `WR DATA` with the transmit buffer full (R129 b). Safe. -/
  | writeDataFull
  /-- `RD DATA` with the receive buffer empty (R128 b). Safe. -/
  | readDataEmpty
  /-- `WR BAUD` with 0 or a value too wide (R106, R131). Safe. -/
  | writeBaudRange
  /-- `WR BAUD` with a byte in a buffer (R131). Safe. -/
  | writeBaudBusy
  /-- `WR CTRL` with a reserved bit set (R106, R133). Safe. -/
  | writeCtrlReserved
  /-- `WR CTRL` clearing an enable bit with a byte in a buffer (R133). Safe. -/
  | writeCtrlBusy
  /-- `WR CLKEN` clearing a set clock bit of the GPIO bank or the UART (R135). Safe. -/
  | writeClkenClears
  /-- A bus access that is not of 4 bytes (20_memory.md R62). Safe. -/
  | accessWidth
  /-- A bus access that is not aligned (R63). Safe. -/
  | accessMisaligned
  /-- A bus access to an address that is no register (R61). Safe. -/
  | accessNoRegister
deriving DecidableEq, Repr

/-- The state after reset under a configuration (10_state.md R43, 70_reset_and_hazards.md R251). `baud` is
"unspecified" there; DESIGN CHOICE 0, unsafe in itself (log entry 5). No program is placed, no draw and no agent is
supplied (log entries 2, 3, 4); the line input is opaque (log entry 15). -/
def State.resetWith (c : Cfg) : State where
  cfg := c
  modeLo := c.resetModeLo
  modeHi := c.resetModeHi
  out := c.resetOut
  baud := 0
  ctrl := { re := false, te := false, ue := false }
  clken := c.resetClken
  txbuf := none
  rxbuf := none
  settlingGpio := false
  settlingUart := false
  baudValid := false
  viol := false
  txLine := []
  rxIn := Config.lineInput
  rxPos := 0
  rxLost := 0
  masters := Master.idle :: List.replicate (c.ntasks - 1) Master.idle
  cur := 0
  sched := []
  ticks := 0
  draws := []
  drawn := 0

/-- The state after reset of the target device. -/
def State.reset : State := State.resetWith Config.device.cfg

end Sys2Proof.Machine
end

