-- ==== Sys2Proof/WellFormed.lean ====
section
/-! DEFINITION. Well-formedness: the preconditions that the operand types of a driver operation carry
(30_encoding.md R94). An ill-formed call is refused before any step of it (60_exceptions.md R221). -/

namespace Sys2Proof

/-- A pin index names a pin of the bank: 0..15 (10_state.md R24, 30_encoding.md R94). -/
def pinInRange (p : Nat) : Bool := decide (p < 16)

/-- No character of a string is `0x00` (30_encoding.md R94, 45_text_and_timing.md R205). -/
def noNul (s : List Byte) : Bool := s.all fun c => c != 0x00#8

/-- The operands meet the types of 30_encoding.md R94, and `baud` is not 0 (44_uart.md R186). Every format-B
instruction is well formed (R93). -/
def Instr.wellFormed : Instr → Bool
  | .rdModeLo => true
  | .wrModeLo _ => true
  | .rdModeHi => true
  | .wrModeHi _ => true
  | .rdOut => true
  | .wrOut _ => true
  | .rdStat => true
  | .wrStat _ => true
  | .rdData => true
  | .wrData _ => true
  | .rdBaud => true
  | .wrBaud _ => true
  | .rdCtrl => true
  | .wrCtrl _ => true
  | .rdClken => true
  | .wrClken _ => true
  | .enableClock _ => true
  | .setPinMode p _ => pinInRange p
  | .toggle p => pinInRange p
  | .write p _ => pinInRange p
  | .uartInit baud _ => baud != 0#32
  | .sendByte _ => true
  | .recvByte => true
  | .sendString s => noNul s
  | .sendUnsignedDecimal _ => true
  | .busyWait _ => true

end Sys2Proof
end

