-- ==== Sys2Proof/Machine/Operands.lean ====
section
/-! DEFINITION. Operand assembly (30_encoding.md R95 to R103), address decode (20_memory.md R61), and the
bit-field helpers of the model. -/

namespace Sys2Proof.Machine

/-- The bits of `known` where `mask` has a 1, any value elsewhere: a read of a register with bits the spec leaves
open (00_scope.md R16). -/
def mergeAny (mask known any : Word) : Word := (known &&& mask) ||| (any &&& ~~~mask)

/-- The `n` low bits. -/
def lowMask (n : Nat) : Word := BitVec.ofNat 32 (2 ^ n - 1)

/-- One bit at position `i`. -/
def bit (i : Nat) : Word := 1#32 <<< i

/-- One bit at position `i`, if `b`. -/
def bitIf (i : Nat) (b : Bool) : Word := if b then bit i else 0

/-- `mreg(p)` (R95). -/
def mreg (p : Nat) : Reg := if p < 8 then .modeLo else .modeHi

/-- `sh(p)` (R95). -/
def sh (p : Nat) : Nat := 4 * (p % 8)

/-- `ENC(m)` (R96). -/
def enc (c : Cfg) : PinMode → BitVec 4
  | .inFloat => c.encInFloat
  | .outPp => c.encOutPp
  | .afPp => c.encAfPp

/-- `FMASK(p)` (R97). -/
def fmask (p : Nat) : Word := 0xF#32 <<< sh p

/-- `zext_32(ENC(m)) << sh(p)`: a mode code at its pin's place (R97). -/
def codeAt (c : Cfg) (p : Nat) (m : PinMode) : Word := (enc c m).setWidth 32 <<< sh p

/-- `ins(t, p, m)` (R97). -/
def ins (c : Cfg) (t : Word) (p : Nat) (m : PinMode) : Word := (t &&& ~~~fmask p) ||| codeAt c p m

/-- `PBIT(p)` (R98). -/
def pbit (p : Nat) : Word := bit p

/-- The word `write(p, level)` writes after it read `t` (R99, 43_gpio.md R175). -/
def setLevel (t : Word) (p : Nat) : Level → Word
  | .high => t ||| pbit p
  | .low => t &&& ~~~pbit p

/-- A byte as a register value, `zext_32(b)` (R100). -/
def byteWord (b : Byte) : Word := b.setWidth 32

/-- `r[7:0]` (R100). -/
def wordByte (r : Word) : Byte := r.extractLsb' 0 8

/-- `clock_frequency div baud`, unsigned and truncated (R101). -/
def divisor (clockFrequency baud : Word) : Word := clockFrequency / baud

/-- `CTRL_EN` (R102). -/
def ctrlEn (c : Cfg) : Word := bit c.ctrlRe ||| bit c.ctrlTe ||| bit c.ctrlUe

/-- The position of a peripheral's clock-enable bit (00_scope.md R7). -/
def clkBit (c : Cfg) : Periph → Nat
  | .gpio => c.clkBitGpio
  | .uart => c.clkBitUart

/-- `CLKMASK(which)` (R103). -/
def clkMask (c : Cfg) (which : Periph) : Word := bit (clkBit c which)

/-- `ADDR(X)` (00_scope.md R7). -/
def addrOf (c : Cfg) : Reg → Word
  | .modeLo => c.addrModeLo
  | .modeHi => c.addrModeHi
  | .out => c.addrOut
  | .stat => c.addrStat
  | .data => c.addrData
  | .baud => c.addrBaud
  | .ctrl => c.addrCtrl
  | .clken => c.addrClken

/-- `reg_of(a)` (20_memory.md R61). -/
def regOf (c : Cfg) (a : Word) : Option Reg :=
  [Reg.modeLo, .modeHi, .out, .stat, .data, .baud, .ctrl, .clken].find? fun x => addrOf c x == a

/-- The register a bus access names, or the reason it names none (20_memory.md R61 to R63). -/
def accessReg (c : Cfg) (a : Word) (size : Nat) : Except Refusal Reg :=
  if size ≠ 4 then .error .accessWidth
  else if a.toNat % 4 ≠ 0 then .error .accessMisaligned
  else
    match regOf c a with
    | some x => .ok x
    | none => .error .accessNoRegister

/-- A `WR DATA` value whose bits 31:8 are zero (R106). -/
def dataValueOk (v : Word) : Bool := v.extractLsb' 8 24 == 0

/-- A `WR BAUD` value in `1 .. 2^BAUD_WIDTH - 1` (R106). -/
def baudValueOk (c : Cfg) (v : Word) : Bool := v != 0 && decide (v.toNat < 2 ^ c.baudWidth)

/-- A `WR CTRL` value with no bit set but the three enables (R106). -/
def ctrlValueOk (c : Cfg) (v : Word) : Bool := (v &&& ~~~ctrlEn c) == 0

/-- The enables a `WR CTRL` value holds (40_bus_transactions.md R133). -/
def ctrlOf (c : Cfg) (v : Word) : Ctrl :=
  { re := v.getLsbD c.ctrlRe, te := v.getLsbD c.ctrlTe, ue := v.getLsbD c.ctrlUe }

/-- A buffer of which nothing is known: empty or any byte (R128 c, R129 c), read off a free value. -/
def anyBuffer (any : Word) : Option Byte := if any.getLsbD 8 then some (wordByte any) else none

end Sys2Proof.Machine
end

