-- ==== Sys2Proof/Machine/Flags.lean ====
section
/-! DEFINITION. The predicates and flags the rules compute from the state: the clock predicates (10_state.md R35),
the derived predicates (R38), a pin's field and mode (R24, R25), the two status flags and the words that `STAT`,
`CTRL` and `DATA` read as (R26 to R30). -/

namespace Sys2Proof.Machine

/-- `clk_gpio(S)` (R35). -/
def clkGpio (s : State) : Bool := s.clken.getLsbD s.cfg.clkBitGpio && !s.settlingGpio

/-- `clk_uart(S)` (R35). -/
def clkUart (s : State) : Bool := s.clken.getLsbD s.cfg.clkBitUart && !s.settlingUart

/-- `clk(X)`: whether a register answers (40_bus_transactions.md R136). -/
def clocked (s : State) : Reg → Bool
  | .modeLo => clkGpio s
  | .modeHi => clkGpio s
  | .out => clkGpio s
  | .stat => clkUart s
  | .data => clkUart s
  | .baud => clkUart s
  | .ctrl => clkUart s
  | .clken => true

/-- `uart_on(S)` (R38). -/
def uartOn (s : State) : Bool := s.ctrl.ue && clkUart s

/-- `tx_on(S)` (R38). -/
def txOn (s : State) : Bool := s.ctrl.te && s.baudValid && uartOn s

/-- `rx_on(S)` (R38). -/
def rxOn (s : State) : Bool := s.ctrl.re && s.baudValid && uartOn s

/-- `field(S, p)` (R24). -/
def field (s : State) (p : Nat) : BitVec 4 :=
  if p < 8 then s.modeLo.extractLsb' (4 * p) 4 else s.modeHi.extractLsb' (4 * (p - 8)) 4

/-- `mode_of(code)` (R25): a mode, or `none` for the codes the rule calls `OTHER`. -/
def modeOf (c : Cfg) (code : BitVec 4) : Option PinMode :=
  if code = c.encInFloat then some .inFloat
  else if code = c.encOutPp then some .outPp
  else if code = c.encAfPp then some .afPp
  else none

/-- The transmit pin is routed to the UART (R33, 41_hardware_steps.md R150). -/
def txRouted (s : State) : Bool := clkGpio s && field s s.cfg.uartTxPin == s.cfg.encAfPp

/-- `rx_pin_ok(S)` (41_hardware_steps.md R151). -/
def rxPinOk (s : State) : Bool := clkGpio s && field s s.cfg.uartRxPin == s.cfg.encInFloat

/-- `Configured(S)` (R38). -/
def configured (s : State) : Bool :=
  clkUart s && clkGpio s && s.baudValid && (s.ctrl == { re := true, te := true, ue := true }) &&
    (field s s.cfg.uartTxPin == s.cfg.encAfPp) && (field s s.cfg.uartRxPin == s.cfg.encInFloat)

/-- `TXE`: the transmit buffer is empty (R27, R41). -/
def flagTxe (s : State) : Bool := s.txbuf.isNone

/-- `RXNE`: the receive buffer holds a byte (R27, R41). -/
def flagRxne (s : State) : Bool := s.rxbuf.isSome

/-- A byte stands in a buffer (40_bus_transactions.md R131, R133). -/
def bufferOccupied (s : State) : Bool := s.txbuf.isSome || s.rxbuf.isSome

/-- What `STAT` reads as with the UART on: the two flags, any value elsewhere (R27, 40_bus_transactions.md R126). -/
def statWord (s : State) (any : Word) : Word :=
  mergeAny (bit s.cfg.statTxe ||| bit s.cfg.statRxne)
    (bitIf s.cfg.statTxe (flagTxe s) ||| bitIf s.cfg.statRxne (flagRxne s)) any

/-- What `CTRL` reads as: the three enables, any value elsewhere (R30, 40_bus_transactions.md R132). -/
def ctrlWord (s : State) (any : Word) : Word :=
  mergeAny (ctrlEn s.cfg)
    (bitIf s.cfg.ctrlRe s.ctrl.re ||| bitIf s.cfg.ctrlTe s.ctrl.te ||| bitIf s.cfg.ctrlUe s.ctrl.ue) any

/-- What `OUT` reads as: the sixteen output bits, any value above (R26, 40_bus_transactions.md R124). -/
def outWord (s : State) (any : Word) : Word := mergeAny 0x0000FFFF (s.out.setWidth 32) any

/-- What `BAUD` reads as once written (R29, 40_bus_transactions.md R130). -/
def baudWord (s : State) (any : Word) : Word := mergeAny (lowMask s.cfg.baudWidth) s.baud any

/-- What `DATA` reads as with byte `b` in the receive buffer (R28, 40_bus_transactions.md R128). -/
def dataWord (b : Byte) (any : Word) : Word := mergeAny 0x000000FF (byteWord b) any

/-- Disabling: some enable of `new` is 0 where `CTRL` has 1 (40_bus_transactions.md R133). -/
def clearsEnable (old new : Ctrl) : Bool := (old.re && !new.re) || (old.te && !new.te) || (old.ue && !new.ue)

/-- `v` clears a set clock bit of the GPIO bank or the UART (40_bus_transactions.md R135). -/
def clearsClock (s : State) (v : Word) : Bool :=
  (s.clken.getLsbD s.cfg.clkBitGpio && !v.getLsbD s.cfg.clkBitGpio) ||
    (s.clken.getLsbD s.cfg.clkBitUart && !v.getLsbD s.cfg.clkBitUart)

/-- Writing `v` starts the settling of the peripheral with clock bit `i` (40_bus_transactions.md R135). -/
def startsSettling (s : State) (i : Nat) (v : Word) : Bool :=
  (s.cfg.settleMode == .nondet) && !s.clken.getLsbD i && v.getLsbD i

end Sys2Proof.Machine
end

