-- ==== Sys2Proof/Machine/Ops.lean ====
section
/-! DEFINITION. The shared operations: `violation`, drawing a free value, the record of the running master, and the
reads and writes of the eight registers in the order of checks of 40_bus_transactions.md R136. The block has no
exception to take and none to return from (60_exceptions.md R220, R227); `State.violate` is what stands in that
place. -/

namespace Sys2Proof.Machine

/-- What a step answers. -/
abbrev Result := Host.Outcome State Fault Refusal

/-- The outcome `violation` (00_scope.md R15): the ghost flag is set, for good (10_state.md R36). -/
def State.violate (s : State) : State := { s with viol := true }

/-- The next draw of `any value` (00_scope.md R16): the next one the run supplies, else a free value. -/
def State.anyWord (s : State) : Word := s.draws.headD (Config.anyValue s.drawn)

/-- The state after that draw. -/
def State.afterDraw (s : State) : State :=
  { s with draws := s.draws.tail, drawn := if s.draws.isEmpty then s.drawn + 1 else s.drawn }

/-- The state while master `k` takes its step. -/
def State.runAs (s : State) (k : Nat) : State := { s with cur := k }

/-- The master whose step this is. -/
def State.me (s : State) : Master := s.masters.getD s.cur Master.idle

/-- The master whose step this is, changed. -/
def State.setMe (s : State) (m : Master) : State := { s with masters := s.masters.set s.cur m }

/-- The temporary `t` of the running sequence (10_state.md R39), written. -/
def State.setT (s : State) (v : Word) : State := s.setMe { s.me with tmp := { s.me.tmp with t := v } }

/-- Whether the UART was `Configured` at the call of the running transport operation (10_state.md R42), written. -/
def State.setEntered (s : State) (b : Bool) : State := s.setMe { s.me with tmp := { s.me.tmp with entered := b } }

/-- The rest of a master's program after its current item (10_state.md R40). -/
def Master.rest (m : Master) : List Slot :=
  match m.todo with
  | _ :: r => r
  | [] => m.loop.tail

/-- A master past its current item: at the start of the next one, with no temporary kept (10_state.md R39, R40). -/
def Master.finish (m : Master) : Master := { m with todo := m.rest, label := 0, tmp := Temps.clear }

/-- The running operation returns nothing. -/
def State.finish (s : State) : State := s.setMe s.me.finish

/-- The running operation returns `r`. -/
def State.finishWith (s : State) (r : Word) : State := s.setMe { s.me.finish with ret := r }

/-- A read of a gated register: any value, and a violation (40_bus_transactions.md R136). -/
def readGated (s : State) : Word × State := (s.anyWord, s.afterDraw.violate)

/-- `RD MODE_LO` (R120). -/
def readModeLo (s : State) : Word × State := if clkGpio s then (s.modeLo, s) else readGated s

/-- `WR MODE_LO` (R121). A gated write changes nothing (R136). -/
def writeModeLo (v : Word) (s : State) : State := if clkGpio s then { s with modeLo := v } else s.violate

/-- `RD MODE_HI` (R122). -/
def readModeHi (s : State) : Word × State := if clkGpio s then (s.modeHi, s) else readGated s

/-- `WR MODE_HI` (R123). -/
def writeModeHi (v : Word) (s : State) : State := if clkGpio s then { s with modeHi := v } else s.violate

/-- `RD OUT` (R124). -/
def readOut (s : State) : Word × State := if clkGpio s then (outWord s s.anyWord, s.afterDraw) else readGated s

/-- `WR OUT` (R125): bits 31:16 are ignored. -/
def writeOut (v : Word) (s : State) : State :=
  if clkGpio s then { s with out := v.extractLsb' 0 16 } else s.violate

/-- `RD STAT` (R126). -/
def readStat (s : State) : Word × State :=
  if clkUart s then (if uartOn s then statWord s s.anyWord else s.anyWord, s.afterDraw) else readGated s

/-- A read of `DATA` without `rx_on`, with the UART clocked: any value, the receive buffer unspecified, a violation
(R128 c). -/
def readDataOff (s : State) : Word × State :=
  (s.anyWord, { s.afterDraw.afterDraw.violate with rxbuf := anyBuffer s.afterDraw.anyWord })

/-- `RD DATA` (R128). `rx_on` implies that the UART is clocked, so cases (a) and (b) stand first. -/
def readData (s : State) : Except Refusal (Word × State) :=
  if rxOn s then
    match s.rxbuf with
    | some b => .ok (dataWord b s.anyWord, { s.afterDraw with rxbuf := none })
    | none => .error .readDataEmpty
  else .ok (if clkUart s then readDataOff s else readGated s)

/-- A write of `DATA` without `tx_on`, with the UART clocked: the transmit buffer unspecified, a violation
(R129 c). -/
def writeDataOff (s : State) : State := { s.afterDraw.violate with txbuf := anyBuffer s.anyWord }

/-- `WR DATA` (R129). `tx_on` implies that the UART is clocked, so cases (a) and (b) stand first. -/
def writeData (v : Word) (s : State) : Except Refusal State :=
  if !dataValueOk v then .error .writeDataReserved
  else if txOn s then
    match s.txbuf with
    | none => .ok { s with txbuf := some (wordByte v) }
    | some _ => .error .writeDataFull
  else .ok (if clkUart s then writeDataOff s else s.violate)

/-- `RD BAUD` (R130). -/
def readBaud (s : State) : Word × State :=
  if clkUart s then (if s.baudValid then baudWord s s.anyWord else s.anyWord, s.afterDraw) else readGated s

/-- `WR BAUD` (R131). -/
def writeBaud (v : Word) (s : State) : Except Refusal State :=
  if !baudValueOk s.cfg v then .error .writeBaudRange
  else if !clkUart s then .ok s.violate
  else if bufferOccupied s then .error .writeBaudBusy
  else .ok { s with baud := v, baudValid := true }

/-- `RD CTRL` (R132). -/
def readCtrl (s : State) : Word × State := if clkUart s then (ctrlWord s s.anyWord, s.afterDraw) else readGated s

/-- `WR CTRL` (R133). -/
def writeCtrl (v : Word) (s : State) : Except Refusal State :=
  if !ctrlValueOk s.cfg v then .error .writeCtrlReserved
  else if !clkUart s then .ok s.violate
  else if clearsEnable s.ctrl (ctrlOf s.cfg v) && bufferOccupied s then .error .writeCtrlBusy
  else .ok { s with ctrl := ctrlOf s.cfg v }

/-- `RD CLKEN` (R134): never gated. -/
def readClken (s : State) : Word × State := (s.clken, s)

/-- `WR CLKEN` (R135): never gated. -/
def writeClken (v : Word) (s : State) : Except Refusal State :=
  if clearsClock s v then .error .writeClkenClears
  else .ok { s with
    clken := v
    settlingGpio := s.settlingGpio || startsSettling s s.cfg.clkBitGpio v
    settlingUart := s.settlingUart || startsSettling s s.cfg.clkBitUart v }

/-- The read transaction on register `X`: the value it hands to the master, and the state (20_memory.md R65). -/
def busRead (x : Reg) (s : State) : Except Refusal (Word × State) :=
  match x with
  | .modeLo => .ok (readModeLo s)
  | .modeHi => .ok (readModeHi s)
  | .out => .ok (readOut s)
  | .stat => .ok (readStat s)
  | .data => readData s
  | .baud => .ok (readBaud s)
  | .ctrl => .ok (readCtrl s)
  | .clken => .ok (readClken s)

/-- The write transaction on register `X` (20_memory.md R65). -/
def busWrite (x : Reg) (v : Word) (s : State) : Except Refusal State :=
  match x with
  | .modeLo => .ok (writeModeLo v s)
  | .modeHi => .ok (writeModeHi v s)
  | .out => .ok (writeOut v s)
  | .stat => .error .writeStat
  | .data => writeData v s
  | .baud => writeBaud v s
  | .ctrl => writeCtrl v s
  | .clken => writeClken v s

/-- A bare read transaction hands its value to the program (30_encoding.md R109). -/
def returnRead (r : Word × State) : State := r.2.finishWith r.1

/-- A bare read transaction that may be refused. -/
def returnReadOrRefuse : Except Refusal (Word × State) → Result
  | .ok r => .next (returnRead r)
  | .error e => .refused e

/-- A bare write transaction that may be refused. -/
def finishOrRefuse : Except Refusal State → Result
  | .ok s => .next s.finish
  | .error e => .refused e

end Sys2Proof.Machine
end

