-- ==== Sys2Proof/Machine/Sequence.lean ====
section
/-! DEFINITION. Driver sequences (00_scope.md R13, 10_state.md R39, R40): a driver operation is a list of actions,
the master's label is the number of the action it stands before, and a step of the operation is that action. An
action issues at most one bus transaction, so that other agents can step between any two (20_memory.md R66, R71). -/

namespace Sys2Proof.Machine

/-- Where a master goes after an action. -/
inductive Flow where
  | next
  | stay
  | jump (label : Nat)
  | done
deriving DecidableEq, Repr

/-- The status flag a polling loop waits for (44_uart.md R190, R192). -/
inductive StatFlag where
  | txe | rxne
deriving DecidableEq, Repr

/-- The position of a status flag (00_scope.md R7). -/
def flagBit (c : Cfg) : StatFlag → Nat
  | .txe => c.statTxe
  | .rxne => c.statRxne

/-- The actions of driver sequences. -/
inductive Act where
  /-- The call of a transport operation: a violation when the UART is not `Configured` (44_uart.md R193). The master
  keeps which it was (10_state.md R42). -/
  | call
  /-- `t <- RD X`. -/
  | rd (x : Reg)
  /-- `WR X, v`, with `v` computed from the temporaries. -/
  | wr (x : Reg) (v : Temps → Word)
  /-- `t <- RD STAT`; go back to it if the flag reads 0 (44_uart.md R190, R192, lines `L1` and `L2`). -/
  | poll (flag : StatFlag)
  /-- `r <- RD DATA`; return `r[7:0]` (44_uart.md R192, lines `L3` and `L4`). -/
  | takeByte
  /-- A step of the master alone, with no transaction. -/
  | own (f : Temps → Temps × Flow)

/-- The label after an action at label `l` of a sequence of `len` actions. -/
def Flow.target (f : Flow) (l len : Nat) : Nat :=
  match f with
  | .next => l + 1
  | .stay => l
  | .jump k => k
  | .done => len

/-- A master after an action: at the next label, or past the last action at the next item of its program
(10_state.md R40). -/
def Master.proceed (m : Master) (len : Nat) (f : Flow) : Master :=
  if f.target m.label len < len then { m with label := f.target m.label len } else m.finish

/-- The running master goes on. -/
def State.proceed (s : State) (len : Nat) (f : Flow) : State := s.setMe (s.me.proceed len f)

/-- One action of a sequence of `len` actions. -/
def runAct (len : Nat) (a : Act) (s : State) : Result :=
  match a with
  | .call => .next (((if configured s then s else s.violate).setEntered (configured s)).proceed len .next)
  | .rd x =>
    match busRead x s with
    | .ok r => .next ((r.2.setT r.1).proceed len .next)
    | .error e => .refused e
  | .wr x v =>
    match busWrite x (v s.me.tmp) s with
    | .ok s' => .next (s'.proceed len .next)
    | .error e => .refused e
  | .poll flag =>
    let r := readStat s
    .next ((r.2.setT r.1).proceed len (if r.1.getLsbD (flagBit s.cfg flag) then .next else .stay))
  | .takeByte =>
    match readData s with
    | .ok r => .next (r.2.finishWith (byteWord (wordByte r.1)))
    | .error e => .refused e
  | .own f =>
    let r := f s.me.tmp
    .next ((s.setMe { s.me with tmp := r.1 }).proceed len r.2)

/-- One step of the operation with the given sequence: the action at the master's label. -/
def runSeq (acts : List Act) (s : State) : Result :=
  match acts[s.me.label]? with
  | some a => runAct acts.length a s
  | none => .next s.finish

/-- An ill-formed call is refused before any step of it (30_encoding.md R94, 60_exceptions.md R221). -/
def ifWellFormed (i : Instr) (r : Result) : Result := if i.wellFormed then r else .refused .illFormed

end Sys2Proof.Machine
end

