-- ==== Sys2Proof/Machine/ClockGate.lean ====
section
/-! DEFINITION. The clock gate: the transactions on `CLKEN` (40_bus_transactions.md R134, R135) and `enable_clock`
(42_clock_gate.md R165). -/

namespace Sys2Proof.Machine

/-- `RD CLKEN` (R134). -/
def execRdClken (s : State) : Result := .next (returnRead (readClken s))

/-- `WR CLKEN, v` (R135). -/
def execWrClken (v : Word) (s : State) : Result := finishOrRefuse (writeClken v s)

/-- `t <- RD CLKEN; WR CLKEN, t | CLKMASK(which)` (R165). -/
def enableClockActs (c : Cfg) (which : Periph) : List Act :=
  [.rd .clken, .wr .clken fun tmp => tmp.t ||| clkMask c which]

/-- `enable_clock(which)` (R165). -/
def execEnableClock (which : Periph) (s : State) : Result := runSeq (enableClockActs s.cfg which) s

end Sys2Proof.Machine
end

