-- ==== Sys2Proof/Machine/Gpio.lean ====
section
/-! DEFINITION. The GPIO bank: the transactions on `MODE_LO`, `MODE_HI`, `OUT` (40_bus_transactions.md R120 to R125),
`set_pin_mode`, `toggle`, `write` (43_gpio.md R170, R173, R175), and the electrical state of a pin (10_state.md
R44). -/

namespace Sys2Proof.Machine

/-- `RD MODE_LO` (R120). -/
def execRdModeLo (s : State) : Result := .next (returnRead (readModeLo s))

/-- `WR MODE_LO, v` (R121). -/
def execWrModeLo (v : Word) (s : State) : Result := .next (writeModeLo v s).finish

/-- `RD MODE_HI` (R122). -/
def execRdModeHi (s : State) : Result := .next (returnRead (readModeHi s))

/-- `WR MODE_HI, v` (R123). -/
def execWrModeHi (v : Word) (s : State) : Result := .next (writeModeHi v s).finish

/-- `RD OUT` (R124). -/
def execRdOut (s : State) : Result := .next (returnRead (readOut s))

/-- `WR OUT, v` (R125). -/
def execWrOut (v : Word) (s : State) : Result := .next (writeOut v s).finish

/-- The sequence of `set_pin_mode(p, m)` (R170): one read-modify-write, or with `PINMODE_SPLIT` one that clears the
field and one that ORs the code in. -/
def setPinModeActs (c : Cfg) (p : Nat) (m : PinMode) : List Act :=
  if c.pinmodeSplit then
    [.rd (mreg p), .wr (mreg p) fun tmp => tmp.t &&& ~~~fmask p,
     .rd (mreg p), .wr (mreg p) fun tmp => tmp.t ||| codeAt c p m]
  else [.rd (mreg p), .wr (mreg p) fun tmp => ins c tmp.t p m]

/-- `set_pin_mode(p, m)` (R170). -/
def execSetPinMode (p : Nat) (m : PinMode) (s : State) : Result :=
  ifWellFormed (.setPinMode p m) (runSeq (setPinModeActs s.cfg p m) s)

/-- `t <- RD OUT; WR OUT, t ^ PBIT(p)` (R173). -/
def toggleActs (p : Nat) : List Act := [.rd .out, .wr .out fun tmp => tmp.t ^^^ pbit p]

/-- `toggle(p)` (R173). -/
def execToggle (p : Nat) (s : State) : Result := ifWellFormed (.toggle p) (runSeq (toggleActs p) s)

/-- `t <- RD OUT; WR OUT, t | PBIT(p)` or `t & ~PBIT(p)` (R175). -/
def writeActs (p : Nat) (level : Level) : List Act := [.rd .out, .wr .out fun tmp => setLevel tmp.t p level]

/-- `write(p, level)` (R175). -/
def execWrite (p : Nat) (level : Level) (s : State) : Result :=
  ifWellFormed (.write p level) (runSeq (writeActs p level) s)

/-- The signal on a pin that is routed to a peripheral (10_state.md R44). -/
inductive PinSignal where
  /-- The UART's transmit signal. -/
  | uartTx
  /-- A signal the spec does not specify. -/
  | unspecified
deriving DecidableEq, Repr

/-- The electrical state the block gives a pin (10_state.md R44). -/
inductive PinOut where
  /-- Actively driven to a level. -/
  | driven (level : Bool)
  /-- Undriven, externally determined. -/
  | undriven
  /-- Routed to a peripheral's signal. -/
  | peripheral (signal : PinSignal)
  /-- Any of the above, possibly another at each observation (93_implementation_defined.md U8). -/
  | unspecified
deriving DecidableEq, Repr

/-- `pin_out(S, p)` (10_state.md R44). -/
def pinOut (s : State) (p : Nat) : PinOut :=
  if clkGpio s then
    match modeOf s.cfg (field s p) with
    | some .outPp => .driven (s.out.getLsbD p)
    | some .inFloat => .undriven
    | some .afPp => .peripheral (if p = s.cfg.uartTxPin then .uartTx else .unspecified)
    | none => .unspecified
  else .unspecified

end Sys2Proof.Machine
end

