-- ==== Sys2Proof/Machine/Uart.lean ====
section
/-! DEFINITION. The UART: the transactions on `STAT`, `DATA`, `BAUD`, `CTRL` (40_bus_transactions.md R126 to R133),
`uart_init`, `send_byte` and `recv_byte` (44_uart.md R185, R190, R192). -/

namespace Sys2Proof.Machine

/-- `RD STAT` (R126). -/
def execRdStat (s : State) : Result := .next (returnRead (readStat s))

/-- `WR STAT, v`: refused for every value and every state (R127). -/
def execWrStat (v : Word) (s : State) : Result := finishOrRefuse (busWrite .stat v s)

/-- `RD DATA` (R128). -/
def execRdData (s : State) : Result := returnReadOrRefuse (readData s)

/-- `WR DATA, v` (R129). -/
def execWrData (v : Word) (s : State) : Result := finishOrRefuse (writeData v s)

/-- `RD BAUD` (R130). -/
def execRdBaud (s : State) : Result := .next (returnRead (readBaud s))

/-- `WR BAUD, v` (R131). -/
def execWrBaud (v : Word) (s : State) : Result := finishOrRefuse (writeBaud v s)

/-- `RD CTRL` (R132). -/
def execRdCtrl (s : State) : Result := .next (returnRead (readCtrl s))

/-- `WR CTRL, v` (R133). -/
def execWrCtrl (v : Word) (s : State) : Result := finishOrRefuse (writeCtrl v s)

/-- The sequence of `uart_init(baud, clock_frequency)` (R185, lines `L1` to `L6`). -/
def uartInitActs (c : Cfg) (baud clockFrequency : Word) : List Act :=
  enableClockActs c .uart ++ enableClockActs c .gpio ++
    setPinModeActs c c.uartTxPin .afPp ++ setPinModeActs c c.uartRxPin .inFloat ++
    [.wr .baud fun _ => divisor clockFrequency baud, .wr .ctrl fun _ => ctrlEn c]

/-- `uart_init(baud, clock_frequency)` (R185). -/
def execUartInit (baud clockFrequency : Word) (s : State) : Result :=
  ifWellFormed (.uartInit baud clockFrequency) (runSeq (uartInitActs s.cfg baud clockFrequency) s)

/-- The actions of `send_byte` with the byte in the temporaries (R190, lines `L1` to `L3`, after the call, R193). -/
def sendActs (b : Temps → Byte) : List Act := [.call, .poll .txe, .wr .data fun tmp => byteWord (b tmp)]

/-- `send_byte(b)` (R190). -/
def execSendByte (b : Byte) (s : State) : Result := runSeq (sendActs fun _ => b) s

/-- The sequence of `recv_byte()` (R192, lines `L1` to `L4`, after the call, R193). -/
def recvActs : List Act := [.call, .poll .rxne, .takeByte]

/-- `recv_byte()` (R192). -/
def execRecvByte (s : State) : Result := runSeq recvActs s

end Sys2Proof.Machine
end

