-- ==== Sys2Proof/Machine/Text.lean ====
section
/-! DEFINITION. Text framing and busy-wait: `send_string`, `send_unsigned_decimal`, `busy_wait`
(45_text_and_timing.md R205 to R208), and the byte lists the rules name: `crlf`, `dec`, `echo`. -/

namespace Sys2Proof.Machine

/-- Line feed (00_scope.md R17). -/
def chLf : Byte := 0x0A

/-- Carriage return (00_scope.md R17). -/
def chCr : Byte := 0x0D

/-- The character of a decimal digit (00_scope.md R17). -/
def digitChar (d : Nat) : Byte := 0x30#8 + BitVec.ofNat 8 d

/-- `crlf(s)` (R205). -/
def crlf : List Byte → List Byte
  | [] => []
  | c :: rest => if c = chLf then chCr :: chLf :: crlf rest else c :: crlf rest

/-- The decimal digits of a number below `10^k`, most significant first. -/
def decDigits : Nat → Nat → List Byte
  | 0, _ => []
  | k + 1, n => if n < 10 then [digitChar n] else decDigits k (n / 10) ++ [digitChar (n % 10)]

/-- `dec(n)` (R206): at most ten digits. -/
def dec (n : Word) : List Byte := decDigits 10 n.toNat

/-- `echo(r)` (R209). -/
def echo : List Byte → List Byte
  | [] => []
  | c :: rest => if c = chCr then chCr :: chLf :: echo rest else c :: echo rest

/-- `for i from 0` (R205, `L1`). -/
def stringStart (s : List Byte) (tmp : Temps) : Temps × Flow := ({ tmp with i := 0, left := s }, .next)

/-- `c <- s[i]`, and to the carriage return or past it (R205, `L2`, `L3`); the end of the string ends the call. The
character is the first of those left, so that a string that the 32-bit `i` cannot count is sent whole (log entry 21). -/
def stringFetch (tmp : Temps) : Temps × Flow :=
  match tmp.left with
  | [] => (tmp, .done)
  | c :: rest => ({ tmp with c := byteWord c, left := rest }, if c = chLf then .next else .jump 6)

/-- The next character. -/
def stringNext (tmp : Temps) : Temps × Flow := ({ tmp with i := tmp.i + 1 }, .jump 2)

/-- The sequence of `send_string(s)` (R205): labels 3 to 5 send the carriage return, 6 to 8 the character. -/
def sendStringActs (s : List Byte) : List Act :=
  [.call, .own (stringStart s), .own stringFetch] ++ sendActs (fun _ => chCr) ++ sendActs (fun tmp => wordByte tmp.c) ++
    [.own stringNext]

/-- `send_string(s)` (R205). -/
def execSendString (str : List Byte) (s : State) : Result :=
  ifWellFormed (.sendString str) (runSeq (sendStringActs str) s)

/-- `i <- 10; buf[10] <- 0x00` (R206, `L1`). -/
def decimalStart (n : Word) (tmp : Temps) : Temps × Flow :=
  ({ tmp with n := n, i := 10, buf := tmp.buf.setIfInBounds 10 0x00 }, .next)

/-- One pass of the conversion (R206, `L2` to `L6`): the loop ends on `n = 0` alone (R207). -/
def decimalPass (tmp : Temps) : Temps × Flow :=
  let n' := tmp.n / 10#32
  ({ tmp with i := tmp.i - 1, buf := tmp.buf.setIfInBounds (tmp.i - 1).toNat (digitChar (tmp.n.toNat % 10)), n := n' },
   if n' = 0 then .next else .stay)

/-- `for j from i` (R206, `L7`). -/
def decimalSend (tmp : Temps) : Temps × Flow := ({ tmp with j := tmp.i }, .next)

/-- `to 9` (R206, `L7`). -/
def decimalNext (tmp : Temps) : Temps × Flow :=
  if tmp.j < 9 then ({ tmp with j := tmp.j + 1 }, .jump 4) else (tmp, .done)

/-- The sequence of `send_unsigned_decimal(n)` (R206): label 2 converts, labels 4 to 6 send `buf[j]`. -/
def sendUnsignedDecimalActs (n : Word) : List Act :=
  [.call, .own (decimalStart n), .own decimalPass, .own decimalSend] ++ sendActs (fun tmp => tmp.buf[tmp.j.toNat]?.getD 0) ++
    [.own decimalNext]

/-- `send_unsigned_decimal(n)` (R206). -/
def execSendUnsignedDecimal (n : Word) (s : State) : Result := runSeq (sendUnsignedDecimalActs n) s

/-- The counter of a busy-wait is loaded (R208). -/
def waitStart (iterations : Word) (tmp : Temps) : Temps × Flow :=
  ({ tmp with n := iterations }, if iterations = 0 then .done else .next)

/-- One pass of a busy-wait (R208). -/
def waitPass (tmp : Temps) : Temps × Flow :=
  ({ tmp with n := tmp.n - 1 }, if tmp.n - 1 = 0 then .done else .stay)

/-- The sequence of `busy_wait(iterations)` (R208): no transaction. DESIGN CHOICE: `busy_wait(0)` passes zero times,
which the spec does not tell from `2^32` times; safe. Log entry 10. -/
def busyWaitActs (iterations : Word) : List Act := [.own (waitStart iterations), .own waitPass]

/-- `busy_wait(iterations)` (R208). -/
def execBusyWait (iterations : Word) (s : State) : Result := runSeq (busyWaitActs iterations) s

end Sys2Proof.Machine
end

