-- ==== Sys2Proof/Machine/Dispatch.lean ====
section
/-! DEFINITION. `exec`: the meaning of each instruction, one arm per constructor. -/

namespace Sys2Proof.Machine

def exec (i : Instr) (s : State) : Host.Outcome State Fault Refusal :=
  match i with
  | .rdModeLo => Sys2Proof.Machine.execRdModeLo s
  | .wrModeLo v => Sys2Proof.Machine.execWrModeLo v s
  | .rdModeHi => Sys2Proof.Machine.execRdModeHi s
  | .wrModeHi v => Sys2Proof.Machine.execWrModeHi v s
  | .rdOut => Sys2Proof.Machine.execRdOut s
  | .wrOut v => Sys2Proof.Machine.execWrOut v s
  | .rdStat => Sys2Proof.Machine.execRdStat s
  | .wrStat v => Sys2Proof.Machine.execWrStat v s
  | .rdData => Sys2Proof.Machine.execRdData s
  | .wrData v => Sys2Proof.Machine.execWrData v s
  | .rdBaud => Sys2Proof.Machine.execRdBaud s
  | .wrBaud v => Sys2Proof.Machine.execWrBaud v s
  | .rdCtrl => Sys2Proof.Machine.execRdCtrl s
  | .wrCtrl v => Sys2Proof.Machine.execWrCtrl v s
  | .rdClken => Sys2Proof.Machine.execRdClken s
  | .wrClken v => Sys2Proof.Machine.execWrClken v s
  | .enableClock which => Sys2Proof.Machine.execEnableClock which s
  | .setPinMode pin mode => Sys2Proof.Machine.execSetPinMode pin mode s
  | .toggle pin => Sys2Proof.Machine.execToggle pin s
  | .write pin level => Sys2Proof.Machine.execWrite pin level s
  | .uartInit baud clk => Sys2Proof.Machine.execUartInit baud clk s
  | .sendByte b => Sys2Proof.Machine.execSendByte b s
  | .recvByte => Sys2Proof.Machine.execRecvByte s
  | .sendString str => Sys2Proof.Machine.execSendString str s
  | .sendUnsignedDecimal n => Sys2Proof.Machine.execSendUnsignedDecimal n s
  | .busyWait iterations => Sys2Proof.Machine.execBusyWait iterations s

end Sys2Proof.Machine
end

