-- ==== Sys2Proof/Machine/Hardware.lean ====
section
/-! DEFINITION. The steps the hardware takes by itself (41_hardware_steps.md R150 to R154): each with its enabling
condition and its effect. A hardware agent with no enabled step does not step: the state stays as it is. -/

namespace Sys2Proof.Machine

/-- `TXDRAIN` (R150). -/
def txDrain (s : State) : State :=
  if txOn s then
    match s.txbuf with
    | some b => { s with txLine := s.txLine ++ [(b, txRouted s)], txbuf := none }
    | none => s
  else s

/-- A byte is in the receive buffer and counted as taken from the line (R151). -/
def receiveByte (s : State) (b : Byte) : State := { s with rxbuf := some b, rxPos := s.rxPos + 1 }

/-- A byte is lost (R152, R153). -/
def loseByte (s : State) : State := { s with rxPos := s.rxPos + 1, rxLost := s.rxLost + 1 }

/-- The effect of `RXARRIVE` (R151) or `RXOVERRUN` (R152), by the receive buffer. -/
def takeFromLine (s : State) (new : Byte) (keepNew : Bool) : State :=
  match s.rxbuf with
  | none => receiveByte s new
  | some old => { loseByte s with rxbuf := some (if keepNew then new else old) }

/-- `RXARRIVE` (R151). -/
def rxArrive (s : State) : State :=
  match s.rxIn[s.rxPos]? with
  | some new => if rxOn s && rxPinOk s && s.rxbuf.isNone then takeFromLine s new false else s
  | none => s

/-- `RXOVERRUN` (R152): the old or the new byte survives. -/
def rxOverrun (keepNew : Bool) (s : State) : State :=
  match s.rxIn[s.rxPos]? with
  | some new => if rxOn s && rxPinOk s && s.rxbuf.isSome then takeFromLine s new keepNew else s
  | none => s

/-- `RXDROP` (R153): with the receiver on and its pin no input, the byte may also be received as usual. -/
def rxDrop (receive keepNew : Bool) (s : State) : State :=
  match s.rxIn[s.rxPos]? with
  | some new =>
    if rxOn s then
      if rxPinOk s then s
      else if receive then takeFromLine s new keepNew
      else loseByte s
    else loseByte s
  | none => s

/-- `CLKSETTLE` of the GPIO bank (R154): the agent is present only with `SETTLE_MODE = nondet`. -/
def settleGpio (s : State) : State := if s.cfg.settleMode = .nondet then { s with settlingGpio := false } else s

/-- `CLKSETTLE` of the UART (R154). -/
def settleUart (s : State) : State := if s.cfg.settleMode = .nondet then { s with settlingUart := false } else s

end Sys2Proof.Machine
end

