-- ==== Sys2Proof/Machine/Fetch.lean ====
section
/-! DEFINITION. Which agent steps next, which instruction a master stands before, and the step of each agent
(10_state.md R20, R40; 41_hardware_steps.md R155). Also the loading of one transaction word. -/

namespace Sys2Proof.Machine

/-- The agent that steps next: the next one the run supplies, else a free choice. -/
def nextAgent (s : State) : Agent := s.sched.headD (Config.schedule s.ticks)

/-- The state once that agent is chosen. -/
def State.scheduled (s : State) : State :=
  { s with sched := s.sched.tail, ticks := if s.sched.isEmpty then s.ticks + 1 else s.ticks }

/-- What a master stands before. -/
inductive Fetched where
  /-- No item is left: the master takes no step. -/
  | idle
  /-- An instruction. -/
  | run (i : Instr)
  /-- A conditional item whose condition is false. -/
  | skip
  /-- A bus access that names no register. -/
  | refuse (r : Refusal)
deriving DecidableEq, Repr

/-- The item of its program a master stands before (10_state.md R40). -/
def Master.slot (m : Master) : Option Slot := (m.todo ++ m.loop).head?

/-- The instruction of an item (20_memory.md R65; 45_text_and_timing.md R209 for the last two). -/
def slotInstr (c : Cfg) (ret : Word) : Slot → Fetched
  | .word w => .run (decode w)
  | .op i => .run i
  | .memRead a size =>
    match accessReg c a size with
    | .ok x => .run (readOf x)
    | .error r => .refuse r
  | .memWrite a size v =>
    match accessReg c a size with
    | .ok x => .run (writeOf x v)
    | .error r => .refuse r
  | .sendResult => .run (.sendByte (wordByte ret))
  | .ifResult b i => if wordByte ret = b then .run i else .skip

/-- What the running master stands before. -/
def fetch (s : State) : Fetched :=
  match s.me.slot with
  | some slot => slotInstr s.cfg s.me.ret slot
  | none => .idle

/-- The step of the running master. -/
def masterStep (s : State) : Result :=
  match fetch s with
  | .idle => .next s
  | .run i => exec i s
  | .skip => .next s.finish
  | .refuse r => .refused r

/-- The step of an agent. -/
def agentStep (a : Agent) (s : State) : Result :=
  match a with
  | .master k => masterStep (s.runAs k)
  | .txDrain => .next (txDrain s)
  | .rxArrive => .next (rxArrive s)
  | .rxOverrun keepNew => .next (rxOverrun keepNew s)
  | .rxDrop receive keepNew => .next (rxDrop receive keepNew s)
  | .settleGpio => .next (settleGpio s)
  | .settleUart => .next (settleUart s)

/-- A master about to run item `i`, before what it had to run. -/
def Master.load (m : Master) (i : Slot) : Master := { m with todo := i :: m.todo, label := 0, tmp := Temps.clear }

/-- Master 0 is about to run item `i`, and it is the next agent. -/
def State.load (s : State) (i : Slot) : State :=
  { s with
    masters :=
      match s.masters with
      | m :: rest => m.load i :: rest
      | [] => [Master.idle.load i]
    sched := .master 0 :: s.sched }

end Sys2Proof.Machine
end

