-- ==== Sys2Proof/Machine/Step.lean ====
section
/-! DEFINITION. The step: the scheduled agent takes one step (10_state.md R20). -/

namespace Sys2Proof.Machine

/-- One step of the system. -/
def step (s : State) : Host.Outcome State Fault Refusal := agentStep (nextAgent s) s.scheduled

/-- The transaction word with bits `w` is the next item of master 0's program, and master 0 is the next agent: the
load of a program from outside (10_state.md R45). Log entry 4. DESIGN CHOICE: of a number wider than 36 bits, which is
no transaction (30_encoding.md R90), the low 36 bits are loaded and run, where `decodeNat` rejects it; unsafe. Log
entry 16. -/
def State.withFetchWord (s : State) (nbits w : Nat) : State := s.load (.word (BitVec.ofNat 36 (w % 2 ^ nbits)))

end Sys2Proof.Machine
end

