-- ==== Sys2Proof/Machine/Applications.lean ====
section
/-! DEFINITION. The application loops (45_text_and_timing.md R209, R210) as programs of one master. They are
consumers of the block, outside its core scope (00_scope.md R6); no rule of the block depends on them. -/

namespace Sys2Proof.Machine

/-- One turn of the echo loop (R209, `L1` to `L3`). -/
def echoTurn : List Slot := [.op .recvByte, .sendResult, .ifResult chCr (.sendByte chLf)]

/-- A master that runs `uart_init` and then echoes for ever (R209). -/
def echoMaster (baud clockFrequency : Word) : Master :=
  { Master.idle with todo := [.op (.uartInit baud clockFrequency)], loop := echoTurn }

/-- A master that blinks a pin for ever (R210). -/
def blinkMaster (p : Nat) (k : Word) : Master :=
  { Master.idle with
    todo := [.op (.enableClock .gpio), .op (.setPinMode p .outPp)]
    loop := [.op (.toggle p), .op (.busyWait k)] }

/-- One turn of the periodic print, for one value of its counter (R210). -/
def printTurn (text : List Byte) (counter k : Word) : List Slot :=
  [.op (.sendString text), .op (.sendUnsignedDecimal counter), .op (.sendString [chLf]), .op (.busyWait k)]

/-- The periodic print as an infinite program whose operands change from turn to turn (R210). What the counter holds in
each turn, and whether it wraps, is not given there, so it is an argument. -/
def printProgram (baud clockFrequency : Word) (text : List Byte) (counter : Nat → Word) (k : Word) : Nat → Slot
  | 0 => .op (.uartInit baud clockFrequency)
  | n + 1 => (printTurn text (counter (n / 4)) k)[n % 4]?.getD (.op (.busyWait k))

end Sys2Proof.Machine
end

