-- ==== Sys2Proof/Machine/Transport.lean ====
section
/-! DEFINITION. The UART transport's logical state (10_state.md R42): a property of a master's position and of
`Configured`, no bits of the block. -/

namespace Sys2Proof.Machine

/-- The sequence of a driver operation; a bare transaction has none. -/
def driverActs (c : Cfg) : Instr → List Act
  | .rdModeLo => []
  | .wrModeLo _ => []
  | .rdModeHi => []
  | .wrModeHi _ => []
  | .rdOut => []
  | .wrOut _ => []
  | .rdStat => []
  | .wrStat _ => []
  | .rdData => []
  | .wrData _ => []
  | .rdBaud => []
  | .wrBaud _ => []
  | .rdCtrl => []
  | .wrCtrl _ => []
  | .rdClken => []
  | .wrClken _ => []
  | .enableClock which => enableClockActs c which
  | .setPinMode p m => setPinModeActs c p m
  | .toggle p => toggleActs p
  | .write p level => writeActs p level
  | .uartInit baud clk => uartInitActs c baud clk
  | .sendByte b => sendActs fun _ => b
  | .recvByte => recvActs
  | .sendString str => sendStringActs str
  | .sendUnsignedDecimal n => sendUnsignedDecimalActs n
  | .busyWait iterations => busyWaitActs iterations

/-- The logical states (R42). A transport operation called from `Unconfigured` leads to none of them. -/
inductive TransportState where
  | unconfigured | configured | transmitting | receiving
deriving DecidableEq, Repr

/-- The transient state a master is in before an action: between the call and the return of `send_byte` or
`recv_byte` (R42). -/
def actPhase : Act → Option TransportState
  | .poll .txe => some .transmitting
  | .wr .data _ => some .transmitting
  | .poll .rxne => some .receiving
  | .takeByte => some .receiving
  | .call => none
  | .rd _ => none
  | .wr _ _ => none
  | .own _ => none

/-- The action the running master stands before. -/
def currentAct (s : State) : Option Act :=
  match fetch s with
  | .run i => (driverActs s.cfg i)[s.me.label]?
  | .idle => none
  | .skip => none
  | .refuse _ => none

/-- The logical state of the transport as the running master sees it (R42). A master inside a `send_byte` or
`recv_byte` that it called while the UART was not `Configured` is in no state. -/
def transportState (s : State) : Option TransportState :=
  match (currentAct s).bind actPhase with
  | some phase => if s.me.tmp.entered then some phase else none
  | none => some (if configured s then .configured else .unconfigured)

/-- Some master is in the given state: `Transmitting` and `Receiving` are properties of a master's position (R42). -/
def someMasterIn (phase : TransportState) (s : State) : Bool :=
  (List.range s.masters.length).any fun k => transportState (s.runAs k) == some phase

end Sys2Proof.Machine
end

