-- ==== Sys2Proof/Safety.lean ====
section
/-! DEFINITION. What claims are stated in: runs, safe states, the named progress assumptions of 41_hardware_steps.md
R155, uninterrupted runs of one operation, and the invariant of the model. -/

namespace Sys2Proof.Machine

/-- A claim about a run is meaningful only if `viol` is false (00_scope.md R15). -/
abbrev State.Clean (s : State) : Prop := s.viol = false

/-- What a run supplies before one step, as the parameters of 10_state.md R45: the agent that steps, draws of
`any value`, and further items of each master's program. Functions of the step's number, so that every schedule, every
sequence of draws and every infinite program (R40) is that of some run. -/
structure Moment where
  agent : Agent
  draws : List Word := []
  items : Nat → List Slot := fun _ => []

/-- A master with further items at the end of its program. A program that loops for ever has no end. -/
def Master.extend (m : Master) (items : List Slot) : Master :=
  if m.loop = [] then { m with todo := m.todo ++ items } else m

/-- The state with what the run supplies before a step. -/
def State.supply (s : State) (m : Moment) : State :=
  { s with
    sched := [m.agent]
    draws := s.draws ++ m.draws
    masters := s.masters.mapIdx fun k a => a.extend (m.items k) }

/-- An infinite run that no refusal ends. Every interleaving of the agents is the schedule of some `e`
(41_hardware_steps.md R155). -/
def IsRun (e : Nat → Moment) (r : Nat → State) : Prop := ∀ n, step ((r n).supply (e n)) = .next (r (n + 1))

/-- Master `k` is given the infinite program `p`, one item before each step of the run (10_state.md R40). -/
def RunsProgram (e : Nat → Moment) (k : Nat) (p : Nat → Slot) : Prop := ∀ n, (e n).items k = [p n]

/-- `TXDRAIN` is enabled (41_hardware_steps.md R150). -/
abbrev TxDrainEnabled (s : State) : Prop := txOn s = true ∧ s.txbuf ≠ none

/-- `RXARRIVE` is enabled (R151). -/
abbrev RxArriveEnabled (s : State) : Prop :=
  s.rxPos < s.rxIn.length ∧ rxOn s = true ∧ rxPinOk s = true ∧ s.rxbuf = none

/-- `CLKSETTLE` is enabled for the GPIO bank (R154). -/
abbrev SettleGpioEnabled (s : State) : Prop := s.cfg.settleMode = .nondet ∧ s.settlingGpio = true

/-- `CLKSETTLE` is enabled for the UART (R154). -/
abbrev SettleUartEnabled (s : State) : Prop := s.cfg.settleMode = .nondet ∧ s.settlingUart = true

/-- Weak fairness: an agent whose step stays enabled eventually steps. -/
def WeaklyFair (enabled : State → Prop) (a : Agent) (e : Nat → Moment) (r : Nat → State) : Prop :=
  ∀ n, (∀ m, n ≤ m → enabled (r m)) → ∃ m, n ≤ m ∧ (e m).agent = a

/-- `A_TX_PROGRESS` (R155). -/
def TxProgress (e : Nat → Moment) (r : Nat → State) : Prop := WeaklyFair TxDrainEnabled .txDrain e r

/-- A master is polling `RXNE`. -/
def pollsRxne (s : State) (k : Nat) : Prop := k < s.masters.length ∧ currentAct (s.runAs k) = some (.poll .rxne)

/-- `A_RX_SUPPLY` (R155): the peer has another byte whenever a master polls an empty buffer, and `RXARRIVE` is weakly
fair. -/
def RxSupply (e : Nat → Moment) (r : Nat → State) : Prop :=
  (∀ n k, pollsRxne (r n) k → (r n).rxbuf = none → (r n).rxPos < (r n).rxIn.length) ∧
    WeaklyFair RxArriveEnabled .rxArrive e r

/-- `A_SETTLE` (R155). -/
def SettleProgress (e : Nat → Moment) (r : Nat → State) : Prop :=
  WeaklyFair SettleGpioEnabled .settleGpio e r ∧ WeaklyFair SettleUartEnabled .settleUart e r

/-- `A_NO_OVERRUN` (R155): `RXOVERRUN` and `RXDROP` never fire. -/
def NoOverrun (e : Nat → Moment) (r : Nat → State) : Prop :=
  ∀ n, (∀ b, (e n).agent = .rxOverrun b → rxOverrun b (r n) = r n) ∧
    ∀ a b, (e n).agent = .rxDrop a b → rxDrop a b (r n) = r n

/-- There is a running master. -/
abbrev State.Runs (s : State) : Prop := s.cur < s.masters.length

/-- The running master stands at the start of an operation (10_state.md R40). -/
abbrev State.AtCall (s : State) : Prop := s.Runs ∧ s.me.label = 0

/-- `n` steps of one operation with no other agent between them. -/
def execN (i : Instr) : Nat → State → Result
  | 0, s => .next s
  | n + 1, s =>
    match exec i s with
    | .next s' => execN i n s'
    | .fault r => .fault r
    | .refused r => .refused r

/-- `n` steps of one operation, with the transmit engine stepping before each. -/
def execDrainN (i : Instr) : Nat → State → Result
  | 0, s => .next s
  | n + 1, s =>
    match exec i (txDrain s) with
    | .next s' => execDrainN i n s'
    | .fault r => .fault r
    | .refused r => .refused r

/-- The bytes accepted for transmission: those on the line and the one still in the buffer (41_hardware_steps.md
R150). -/
def sentBytes (s : State) : List Byte := s.txLine.map Prod.fst ++ s.txbuf.toList

/-- The bytes accepted for transmission, each with its routing mark, the one still in the buffer as routed (44_uart.md
R195). -/
def sentRouted (s : State) : List (Byte × Bool) := s.txLine ++ s.txbuf.toList.map fun b => (b, true)

/-- The two settling flags are as `SETTLE_MODE = none` has them (10_state.md R35). -/
abbrev State.Settled (s : State) : Prop :=
  s.cfg.settleMode = .none ∧ s.settlingGpio = false ∧ s.settlingUart = false

/-- How many steps `set_pin_mode` takes (43_gpio.md R170). -/
def setPinModeSteps (c : Cfg) : Nat := if c.pinmodeSplit then 4 else 2

/-- The invariant of the model: the configuration is admitted, there are `NTASKS` masters, a written divisor fits its
register and is not zero (10_state.md R29), a settling peripheral has its clock bit set and settles only with
`SETTLE_MODE = nondet` (R35), and no more bytes are lost than were taken from the line (R34). -/
structure State.Inv (s : State) : Prop where
  cfg_valid : s.cfg.Valid
  masters_count : s.masters.length = s.cfg.ntasks
  baud_range : s.baudValid = true → 1 ≤ s.baud.toNat ∧ s.baud.toNat < 2 ^ s.cfg.baudWidth
  settling_gpio : s.settlingGpio = true → s.cfg.settleMode = .nondet ∧ s.clken.getLsbD s.cfg.clkBitGpio = true
  settling_uart : s.settlingUart = true → s.cfg.settleMode = .nondet ∧ s.clken.getLsbD s.cfg.clkBitUart = true
  rx_pos : s.rxPos ≤ s.rxIn.length
  rx_lost : s.rxLost ≤ s.rxPos

end Sys2Proof.Machine
end

