-- ==== Sys2Proof/Certificates/Slice0/Obligations.lean ====
section
/-! DEFINITION. The statements for the provers, each with the rules it formalises. A next state is written as the
state before with the changed fields; `s.finish` and `s.finishWith r` change the record of the running master alone
(`FinishMovesMasterOn`), `s.afterDraw` the supply of free values alone. -/

open Sys2Proof Sys2Proof.Machine

/-! ## Encoding -/

/-- Decoding the word of an instruction gives the instruction back, for every operand (R91, R93, R104). -/
def Obligations.DecodeOfEncode : Prop := ∀ (i : Instr) (x : TxnWord), encode i = some x → decode x = i

/-- Encoding what a word decodes to gives the word back, for a read with `data` written as zero (R91). -/
def Obligations.EncodeOfDecode : Prop :=
  ∀ x : TxnWord, encode (decode x) = some (if x.getLsbD 35 then x else x &&& 0xF00000000#36)

/-- R93 and the opcode map R104: the sixteen rows by mask and match. -/
def Obligations.DecodeByMaskAndMatch : Prop :=
  ∀ x : TxnWord,
    (x &&& 0xF00000000#36 = 0x000000000#36 → decode x = .rdModeLo) ∧
    (x &&& 0xF00000000#36 = 0x800000000#36 → decode x = .wrModeLo (x.setWidth 32)) ∧
    (x &&& 0xF00000000#36 = 0x100000000#36 → decode x = .rdModeHi) ∧
    (x &&& 0xF00000000#36 = 0x900000000#36 → decode x = .wrModeHi (x.setWidth 32)) ∧
    (x &&& 0xF00000000#36 = 0x200000000#36 → decode x = .rdOut) ∧
    (x &&& 0xF00000000#36 = 0xA00000000#36 → decode x = .wrOut (x.setWidth 32)) ∧
    (x &&& 0xF00000000#36 = 0x300000000#36 → decode x = .rdStat) ∧
    (x &&& 0xF00000000#36 = 0xB00000000#36 → decode x = .wrStat (x.setWidth 32)) ∧
    (x &&& 0xF00000000#36 = 0x400000000#36 → decode x = .rdData) ∧
    (x &&& 0xF00000000#36 = 0xC00000000#36 → decode x = .wrData (x.setWidth 32)) ∧
    (x &&& 0xF00000000#36 = 0x500000000#36 → decode x = .rdBaud) ∧
    (x &&& 0xF00000000#36 = 0xD00000000#36 → decode x = .wrBaud (x.setWidth 32)) ∧
    (x &&& 0xF00000000#36 = 0x600000000#36 → decode x = .rdCtrl) ∧
    (x &&& 0xF00000000#36 = 0xE00000000#36 → decode x = .wrCtrl (x.setWidth 32)) ∧
    (x &&& 0xF00000000#36 = 0x700000000#36 → decode x = .rdClken) ∧
    (x &&& 0xF00000000#36 = 0xF00000000#36 → decode x = .wrClken (x.setWidth 32))

/-- Words written out in 95_test_vectors.md section 3.1, and a number that is no word, whose rejection is the model's
choice (log entry 16). -/
def Obligations.DecodeWrittenWords : Prop :=
  decode 0x0DEADBEEF#36 = .rdModeLo ∧ decode 0x944244444#36 = .wrModeHi 0x44244444 ∧
  decode 0xA00002000#36 = .wrOut 0x00002000 ∧ decode 0xC00000061#36 = .wrData 0x61 ∧
  decode 0xD00000045#36 = .wrBaud 69 ∧ decode 0x700000000#36 = .rdClken ∧
  decodeNat 0x1000000000 = .error .tooWide

/-! ## Steps of the system -/

/-- A scheduled master runs the instruction it stands before, on the state with that choice taken off the schedule; a
format-B word runs the instruction it decodes to. That a schedule and programs stand in the state is the model's
choice (log entries 3 and 4). -/
def Obligations.StepRunsFetchedInstruction : Prop :=
  ∀ (s : State) (k : Nat), nextAgent s = .master k →
    (∀ i, fetch (s.scheduled.runAs k) = .run i → step s = exec i (s.scheduled.runAs k)) ∧
    (∀ w, (s.runAs k).me.slot = some (.word w) →
      step s = exec (decode w) (s.scheduled.runAs k))

/-- The hardware agents step by their own rules, and a master without an item does not change the block (R20, R40); a
conditional item whose condition is false is passed over (R209), a bus access that names no register is refused
(R65). -/
def Obligations.StepOfOtherAgents : Prop :=
  ∀ s : State,
    (nextAgent s = .txDrain → step s = .next (txDrain s.scheduled)) ∧
    (nextAgent s = .rxArrive → step s = .next (rxArrive s.scheduled)) ∧
    (∀ b, nextAgent s = .rxOverrun b → step s = .next (rxOverrun b s.scheduled)) ∧
    (∀ a b, nextAgent s = .rxDrop a b → step s = .next (rxDrop a b s.scheduled)) ∧
    (nextAgent s = .settleGpio → step s = .next (settleGpio s.scheduled)) ∧
    (nextAgent s = .settleUart → step s = .next (settleUart s.scheduled)) ∧
    ∀ k, nextAgent s = .master k →
      (fetch (s.scheduled.runAs k) = .idle → step s = .next (s.scheduled.runAs k)) ∧
      (fetch (s.scheduled.runAs k) = .skip → step s = .next (s.scheduled.runAs k).finish) ∧
      ∀ r, fetch (s.scheduled.runAs k) = .refuse r → step s = .refused r

/-- R61, R62, R63, R65: a 4-byte access to a register's address is the transaction on that register; every other
access is refused. Which reason is named where two apply is the model's choice (log entry 20). -/
def Obligations.BusAccessNamesRegister : Prop :=
  ∀ c : Cfg, c.Valid → ∀ ret : Word,
    (∀ x, slotInstr c ret (.memRead (addrOf c x) 4) = .run (readOf x)) ∧
    (∀ x v, slotInstr c ret (.memWrite (addrOf c x) 4 v) = .run (writeOf x v)) ∧
    (∀ a n v, n ≠ 4 → slotInstr c ret (.memRead a n) = .refuse .accessWidth ∧
      slotInstr c ret (.memWrite a n v) = .refuse .accessWidth) ∧
    (∀ a v, a.toNat % 4 ≠ 0 → slotInstr c ret (.memRead a 4) = .refuse .accessMisaligned ∧
      slotInstr c ret (.memWrite a 4 v) = .refuse .accessMisaligned) ∧
    (∀ a v, a.toNat % 4 = 0 → (∀ x, addrOf c x ≠ a) → slotInstr c ret (.memRead a 4) = .refuse .accessNoRegister ∧
      slotInstr c ret (.memWrite a 4 v) = .refuse .accessNoRegister)

/-- What `finish` and `finishWith` do: the running master is at the next item of its program, with no label kept (R40),
and nothing else changes. `Master.rest` drops the head of `todo`, or, where `todo` is empty, leaves `loop.tail` to do
before `loop` starts again. R39 and R43 say that the temporaries hold no value then; that they are 0, empty and false
(`Temps.clear`) is the model's choice (log entry 6, unsafe). -/
def Obligations.FinishMovesMasterOn : Prop :=
  ∀ (s : State) (r : Word), s.Runs →
    s.finish.me = { s.me with todo := s.me.rest, label := 0, tmp := Temps.clear } ∧
    (s.finishWith r).me = { s.me with todo := s.me.rest, label := 0, tmp := Temps.clear, ret := r } ∧
    (∀ k, k ≠ s.cur → s.finish.masters[k]? = s.masters[k]? ∧ (s.finishWith r).masters[k]? = s.masters[k]?) ∧
    s.finish = { s with masters := s.finish.masters } ∧
    s.finishWith r = { s with masters := (s.finishWith r).masters }

/-! ## Reset and invariants -/

/-- The reset values of R43 under every configuration. `BAUD` is "unspecified" there and is not stated; the
target device's reset state is the one of an admitted configuration. -/
def Obligations.ResetValues : Prop :=
  (∀ c : Cfg, c.Valid →
    (State.resetWith c).clken.getLsbD c.clkBitGpio = false ∧ (State.resetWith c).clken.getLsbD c.clkBitUart = false ∧
    (State.resetWith c).clken = c.resetClken ∧
    (State.resetWith c).modeLo = c.resetModeLo ∧ (State.resetWith c).modeHi = c.resetModeHi ∧
    (State.resetWith c).out = c.resetOut ∧ (State.resetWith c).baudValid = false ∧
    (State.resetWith c).ctrl = { re := false, te := false, ue := false } ∧
    (State.resetWith c).txbuf = none ∧ (State.resetWith c).rxbuf = none ∧ (State.resetWith c).txLine = [] ∧
    (State.resetWith c).rxPos = 0 ∧ (State.resetWith c).rxLost = 0 ∧
    (State.resetWith c).settlingGpio = false ∧ (State.resetWith c).settlingUart = false ∧
    (State.resetWith c).viol = false ∧ (State.resetWith c).masters.length = c.ntasks ∧
    (∀ m ∈ (State.resetWith c).masters, m.label = 0) ∧ configured (State.resetWith c) = false) ∧
  ∃ c : Cfg, c.Valid ∧ State.reset = State.resetWith c

/-- The invariant holds right after reset. -/
def Obligations.ResetHasInvariant : Prop := State.reset.Inv

/-- Every step keeps the invariant, from every state that has it: the configuration stays admitted, the divisor in
range (R29), settling tied to a clock bit that is on (R35, R135), lost bytes among the bytes taken (R34). -/
def Obligations.StepKeepsInvariant : Prop := ∀ s t : State, s.Inv → step s = .next t → t.Inv

/-- R36: the violation mark is never cleared; and the configuration and the line input never change. -/
def Obligations.StepKeepsViolationMark : Prop :=
  ∀ s t : State, step s = .next t →
    (s.viol = true → t.viol = true) ∧ t.cfg = s.cfg ∧ t.rxIn = s.rxIn ∧ s.rxPos ≤ t.rxPos

/-- R233, R135: a clock that is on stays on, and so does a peripheral that answers. -/
def Obligations.StepKeepsClocksOn : Prop :=
  ∀ s t : State, step s = .next t →
    (s.clken.getLsbD s.cfg.clkBitGpio = true → t.clken.getLsbD t.cfg.clkBitGpio = true) ∧
    (s.clken.getLsbD s.cfg.clkBitUart = true → t.clken.getLsbD t.cfg.clkBitUart = true) ∧
    (clkGpio s = true → clkGpio t = true) ∧ (clkUart s = true → clkUart t = true)

/-- R150: in a step that leaves the run clean, the bytes accepted for transmission stay as they are, or grow by one
byte that a write of `DATA` put into an empty buffer with the transmitter on. None is lost, repeated or invented. -/
def Obligations.StepKeepsByteStream : Prop :=
  ∀ s t : State, step s = .next t → t.viol = false →
    sentBytes t = sentBytes s ∨
      ∃ b, sentBytes t = sentBytes s ++ [b] ∧ s.txbuf = none ∧ t.txbuf = some b ∧ t.txLine = s.txLine ∧ txOn s = true

/-- R69: a step that is no master's changes no configuration register, no master and no mark, whatever agent it is. -/
def Obligations.HardwareKeepsConfigurationRegisters : Prop :=
  ∀ (a : Agent) (s t : State), (∀ k, a ≠ .master k) → agentStep a s = .next t →
    t = { s with txbuf := t.txbuf, rxbuf := t.rxbuf, txLine := t.txLine, rxPos := t.rxPos, rxLost := t.rxLost,
                 settlingGpio := t.settlingGpio, settlingUart := t.settlingUart }

/-! ## Steps the hardware takes by itself -/

/-- R150: with the step enabled, the byte in the buffer goes to the line with its routing mark. That a scheduled engine
which is not enabled leaves the state as it is, is the model's choice: an idle step stands for no step of the spec (log
entry 3). -/
def Obligations.TransmitEngineStep : Prop :=
  ∀ s : State,
    (∀ b, txOn s = true → s.txbuf = some b →
      agentStep .txDrain s = .next { s with
        txLine := s.txLine ++ [(b, clkGpio s && (field s s.cfg.uartTxPin == s.cfg.encAfPp))], txbuf := none }) ∧
    (txOn s = false ∨ s.txbuf = none → agentStep .txDrain s = .next s)

/-- R151 and R152: a byte arrives in the empty buffer; in a full one either byte survives and one is counted lost.
That the choice is an argument of the agent, and that an agent which is not enabled changes nothing, is the model's
choice (log entries 3 and 11). -/
def Obligations.ReceiveEngineSteps : Prop :=
  ∀ (s : State) (b : Bool),
    (∀ new, s.rxIn[s.rxPos]? = some new → rxOn s = true → rxPinOk s = true →
      (s.rxbuf = none →
        agentStep .rxArrive s = .next { s with rxbuf := some new, rxPos := s.rxPos + 1 } ∧
        agentStep (.rxOverrun b) s = .next s) ∧
      (∀ old, s.rxbuf = some old →
        agentStep .rxArrive s = .next s ∧
        agentStep (.rxOverrun true) s =
          .next { s with rxbuf := some new, rxPos := s.rxPos + 1, rxLost := s.rxLost + 1 } ∧
        agentStep (.rxOverrun false) s =
          .next { s with rxbuf := some old, rxPos := s.rxPos + 1, rxLost := s.rxLost + 1 })) ∧
    (s.rxIn.length ≤ s.rxPos ∨ rxOn s = false ∨ rxPinOk s = false →
      agentStep .rxArrive s = .next s ∧ agentStep (.rxOverrun b) s = .next s)

/-- R153: with the receiver off the byte is gone; with it on and its pin no input, the byte is gone or received as by
R151 or R152; with receiver and pin in order the step is not enabled. The two arguments (log
entry 11), and that a scheduled drop which is not enabled leaves the state as it is (log entry 3), are the model's
choice. -/
def Obligations.DroppedByteSteps : Prop :=
  ∀ (s : State) (new : Byte) (a b : Bool), s.rxIn[s.rxPos]? = some new →
    (rxOn s = false →
      agentStep (.rxDrop a b) s = .next { s with rxPos := s.rxPos + 1, rxLost := s.rxLost + 1 }) ∧
    (rxOn s = true → rxPinOk s = false →
      agentStep (.rxDrop false b) s = .next { s with rxPos := s.rxPos + 1, rxLost := s.rxLost + 1 } ∧
      (s.rxbuf = none →
        agentStep (.rxDrop true b) s = .next { s with rxbuf := some new, rxPos := s.rxPos + 1 }) ∧
      (∀ old, s.rxbuf = some old →
        agentStep (.rxDrop true b) s =
          .next { s with rxbuf := some (if b then new else old), rxPos := s.rxPos + 1, rxLost := s.rxLost + 1 })) ∧
    (rxOn s = true → rxPinOk s = true → agentStep (.rxDrop a b) s = .next s)

/-- R154: with `SETTLE_MODE = nondet` a settle step clears its flag, and the peripheral answers if its clock bit is
set; otherwise there is no such agent. That a scheduled agent which is not there leaves the state as it is, is the
model's choice (log entry 3). -/
def Obligations.ClockSettleSteps : Prop :=
  ∀ s : State,
    (s.cfg.settleMode = .nondet →
      agentStep .settleGpio s = .next { s with settlingGpio := false } ∧
      agentStep .settleUart s = .next { s with settlingUart := false }) ∧
    (s.cfg.settleMode = .none → agentStep .settleGpio s = .next s ∧ agentStep .settleUart s = .next s) ∧
    clkGpio { s with settlingGpio := false } = s.clken.getLsbD s.cfg.clkBitGpio ∧
    clkUart { s with settlingUart := false } = s.clken.getLsbD s.cfg.clkBitUart

/-! ## Bus transactions -/

/-- R136: a gated read returns any value and marks a violation; a gated write whose value is admitted changes nothing
but that mark. -/
def Obligations.GatedAccessIsViolation : Prop :=
  ∀ (s : State) (x : Reg), clocked s x = false →
    exec (readOf x) s = .next (s.afterDraw.violate.finishWith s.anyWord) ∧
    ∀ v : Word, x ≠ .stat → (x = .data → v.toNat < 256) →
      (x = .baud → 1 ≤ v.toNat ∧ v.toNat < 2 ^ s.cfg.baudWidth) → (x = .ctrl → v &&& ~~~ctrlEn s.cfg = 0) →
      exec (writeOf x v) s = .next s.violate.finish

/-- R120 to R123: the mode registers read as stored, a write stores all 32 bits, and nothing else changes. -/
def Obligations.ModeRegisterTransactions : Prop :=
  ∀ (s : State) (v : Word), clkGpio s = true →
    exec .rdModeLo s = .next (s.finishWith s.modeLo) ∧ exec .rdModeHi s = .next (s.finishWith s.modeHi) ∧
    exec (.wrModeLo v) s = .next { s.finish with modeLo := v } ∧
    exec (.wrModeHi v) s = .next { s.finish with modeHi := v }

/-- R124, R125: a read returns the sixteen output bits and any value above them; a write stores bits 15:0 and ignores
bits 31:16. -/
def Obligations.OutputRegisterTransactions : Prop :=
  ∀ (s : State) (v : Word), clkGpio s = true →
    (∃ r : Word, exec .rdOut s = .next (s.afterDraw.finishWith r) ∧ r.extractLsb' 0 16 = s.out ∧
      r.extractLsb' 16 16 = s.anyWord.extractLsb' 16 16) ∧
    exec (.wrOut v) s = .next { s.finish with out := v.extractLsb' 0 16 }

/-- R126: the two flags with the UART on, any value elsewhere; any value everywhere with the UART off. -/
def Obligations.ReadStatusRegister : Prop :=
  ∀ s : State, s.cfg.Valid → clkUart s = true →
    ∃ r : Word, exec .rdStat s = .next (s.afterDraw.finishWith r) ∧
      (uartOn s = true →
        r.getLsbD s.cfg.statTxe = s.txbuf.isNone ∧ r.getLsbD s.cfg.statRxne = s.rxbuf.isSome ∧
        ∀ i, i ≠ s.cfg.statTxe.val → i ≠ s.cfg.statRxne.val → r.getLsbD i = s.anyWord.getLsbD i) ∧
      (uartOn s = false → r = s.anyWord)

/-- R127: a write of `STAT`, word `0xB00000000 | v`, is refused, whatever the value and the state. -/
def Obligations.WriteStatusRefused : Prop :=
  ∀ (s : State) (v : Word),
    decode (0xB00000000#36 ||| v.setWidth 36) = .wrStat v ∧ exec (.wrStat v) s = .refused .writeStat

/-- R128: (a) the byte is taken out of the receive buffer; (b) refused when it is empty; (c) without `rx_on` any value,
the buffer unspecified, a violation. An unspecified buffer is drawn once (log entry 7). -/
def Obligations.ReadDataRegister : Prop :=
  ∀ s : State,
    (∀ b, rxOn s = true → s.rxbuf = some b →
      ∃ r : Word, exec .rdData s = .next (State.finishWith { s.afterDraw with rxbuf := none } r) ∧
        r.extractLsb' 0 8 = b ∧ r.extractLsb' 8 24 = s.anyWord.extractLsb' 8 24) ∧
    (rxOn s = true → s.rxbuf = none → exec .rdData s = .refused .readDataEmpty) ∧
    (clkUart s = true → rxOn s = false →
      exec .rdData s = .next (State.finishWith
        { s.afterDraw.afterDraw with viol := true, rxbuf := anyBuffer s.afterDraw.anyWord } s.anyWord))

/-- R129: (a) the byte is put into the empty transmit buffer; (b) refused when it is full; (c) without `tx_on` the
buffer unspecified (drawn once, log entry 7), a violation; and a value with a bit of 31:8 set is refused in every
state. -/
def Obligations.WriteDataRegister : Prop :=
  ∀ (s : State) (v : Word),
    (256 ≤ v.toNat → exec (.wrData v) s = .refused .writeDataReserved) ∧
    (v.toNat < 256 →
      (txOn s = true → s.txbuf = none → exec (.wrData v) s = .next { s.finish with txbuf := some (v.setWidth 8) }) ∧
      (∀ b, txOn s = true → s.txbuf = some b → exec (.wrData v) s = .refused .writeDataFull) ∧
      (clkUart s = true → txOn s = false →
        exec (.wrData v) s = .next { s.afterDraw.finish with viol := true, txbuf := anyBuffer s.anyWord }))

/-- R130: the divisor once written, any value above its width and before the first write. -/
def Obligations.ReadBaudRegister : Prop :=
  ∀ s : State, clkUart s = true →
    ∃ r : Word, exec .rdBaud s = .next (s.afterDraw.finishWith r) ∧
      (s.baudValid = true →
        (∀ i, i < s.cfg.baudWidth → r.getLsbD i = s.baud.getLsbD i) ∧
        (∀ i, s.cfg.baudWidth ≤ i → r.getLsbD i = s.anyWord.getLsbD i)) ∧
      (s.baudValid = false → r = s.anyWord)

/-- R131: accepted in range with both buffers empty; refused out of range in every state, and with a byte in a
buffer. -/
def Obligations.WriteBaudRegister : Prop :=
  ∀ (s : State) (v : Word),
    (v = 0 ∨ 2 ^ s.cfg.baudWidth ≤ v.toNat → exec (.wrBaud v) s = .refused .writeBaudRange) ∧
    (1 ≤ v.toNat → v.toNat < 2 ^ s.cfg.baudWidth → clkUart s = true →
      (s.txbuf = none → s.rxbuf = none →
        exec (.wrBaud v) s = .next { s.finish with baud := v, baudValid := true }) ∧
      (s.txbuf ≠ none ∨ s.rxbuf ≠ none → exec (.wrBaud v) s = .refused .writeBaudBusy))

/-- R132: the three enables, any value elsewhere. -/
def Obligations.ReadControlRegister : Prop :=
  ∀ s : State, s.cfg.Valid → clkUart s = true →
    ∃ r : Word, exec .rdCtrl s = .next (s.afterDraw.finishWith r) ∧
      r.getLsbD s.cfg.ctrlRe = s.ctrl.re ∧ r.getLsbD s.cfg.ctrlTe = s.ctrl.te ∧ r.getLsbD s.cfg.ctrlUe = s.ctrl.ue ∧
      ∀ i, i ≠ s.cfg.ctrlRe.val → i ≠ s.cfg.ctrlTe.val → i ≠ s.cfg.ctrlUe.val →
        r.getLsbD i = s.anyWord.getLsbD i

/-- R133: the three enables are stored; refused in every state with another bit set, and when it clears an enable
while a byte is in a buffer. -/
def Obligations.WriteControlRegister : Prop :=
  ∀ (s : State) (v : Word),
    ((∃ i, v.getLsbD i = true ∧ i ≠ s.cfg.ctrlRe.val ∧ i ≠ s.cfg.ctrlTe.val ∧ i ≠ s.cfg.ctrlUe.val) →
      exec (.wrCtrl v) s = .refused .writeCtrlReserved) ∧
    ((∀ i, v.getLsbD i = true → i = s.cfg.ctrlRe.val ∨ i = s.cfg.ctrlTe.val ∨ i = s.cfg.ctrlUe.val) →
      clkUart s = true →
      (((s.ctrl.re = true → v.getLsbD s.cfg.ctrlRe = true) ∧ (s.ctrl.te = true → v.getLsbD s.cfg.ctrlTe = true) ∧
          (s.ctrl.ue = true → v.getLsbD s.cfg.ctrlUe = true)) ∨ (s.txbuf = none ∧ s.rxbuf = none) →
        exec (.wrCtrl v) s = .next { s.finish with
          ctrl := { re := v.getLsbD s.cfg.ctrlRe, te := v.getLsbD s.cfg.ctrlTe, ue := v.getLsbD s.cfg.ctrlUe } }) ∧
      ((s.ctrl.re = true ∧ v.getLsbD s.cfg.ctrlRe = false) ∨ (s.ctrl.te = true ∧ v.getLsbD s.cfg.ctrlTe = false) ∨
          (s.ctrl.ue = true ∧ v.getLsbD s.cfg.ctrlUe = false) → s.txbuf ≠ none ∨ s.rxbuf ≠ none →
        exec (.wrCtrl v) s = .refused .writeCtrlBusy))

/-- R134 and R135: `CLKEN` is never gated; a write is stored and starts the settling of a peripheral whose bit it sets
with `SETTLE_MODE = nondet`; it is refused if it clears a set bit of the GPIO bank or the UART. -/
def Obligations.ClockEnableRegister : Prop :=
  ∀ (s : State) (v : Word),
    exec .rdClken s = .next (s.finishWith s.clken) ∧
    ((s.clken.getLsbD s.cfg.clkBitGpio = true → v.getLsbD s.cfg.clkBitGpio = true) →
      (s.clken.getLsbD s.cfg.clkBitUart = true → v.getLsbD s.cfg.clkBitUart = true) →
      ∃ g u : Bool, exec (.wrClken v) s = .next { s.finish with clken := v, settlingGpio := g, settlingUart := u } ∧
        (g = true ↔ s.settlingGpio = true ∨ (s.cfg.settleMode = .nondet ∧
          s.clken.getLsbD s.cfg.clkBitGpio = false ∧ v.getLsbD s.cfg.clkBitGpio = true)) ∧
        (u = true ↔ s.settlingUart = true ∨ (s.cfg.settleMode = .nondet ∧
          s.clken.getLsbD s.cfg.clkBitUart = false ∧ v.getLsbD s.cfg.clkBitUart = true))) ∧
    ((s.clken.getLsbD s.cfg.clkBitGpio = true ∧ v.getLsbD s.cfg.clkBitGpio = false) ∨
        (s.clken.getLsbD s.cfg.clkBitUart = true ∧ v.getLsbD s.cfg.clkBitUart = false) →
      exec (.wrClken v) s = .refused .writeClkenClears)

/-- R72: a read of a storage register right after an accepted write of it returns what was written. -/
def Obligations.ReadAfterWrite : Prop :=
  ∀ (s : State) (v : Word), s.Runs → s.cfg.Valid →
    (clkGpio s = true →
      (∃ t u, exec (.wrModeLo v) s = .next t ∧ exec .rdModeLo t = .next u ∧ u.me.ret = v) ∧
      (∃ t u, exec (.wrModeHi v) s = .next t ∧ exec .rdModeHi t = .next u ∧ u.me.ret = v) ∧
      (∃ t u, exec (.wrOut v) s = .next t ∧ exec .rdOut t = .next u ∧
        u.me.ret.extractLsb' 0 16 = v.extractLsb' 0 16)) ∧
    (∀ t, clkUart s = true → exec (.wrBaud v) s = .next t →
      ∃ u, exec .rdBaud t = .next u ∧ ∀ i, i < s.cfg.baudWidth → u.me.ret.getLsbD i = v.getLsbD i) ∧
    (∀ t, clkUart s = true → exec (.wrCtrl v) s = .next t →
      ∃ u, exec .rdCtrl t = .next u ∧
        ∀ i, i = s.cfg.ctrlRe.val ∨ i = s.cfg.ctrlTe.val ∨ i = s.cfg.ctrlUe.val → u.me.ret.getLsbD i = v.getLsbD i) ∧
    (∀ t, exec (.wrClken v) s = .next t → ∃ u, exec .rdClken t = .next u ∧ u.me.ret = v)

/-! ## Operand assembly and pins -/

/-- R97: the field mask, field insertion and its laws. -/
def Obligations.FieldInsertLaws : Prop :=
  ∀ (c : Cfg) (t : Word) (p : Nat) (m n : PinMode), p < 16 →
    sh p + 3 ≤ 31 ∧ ins c t p m = (t &&& ~~~(0xF#32 <<< sh p)) ||| ((enc c m).setWidth 32 <<< sh p) ∧
    (ins c t p m).extractLsb' (sh p) 4 = enc c m ∧
    (∀ i, i < sh p ∨ sh p + 3 < i → (ins c t p m).getLsbD i = t.getLsbD i) ∧
    ins c (ins c t p m) p n = ins c t p n ∧
    ∀ q, q < 16 → mreg q = mreg p → q ≠ p → ins c (ins c t p m) q n = ins c (ins c t q n) p m

/-- R24: both readings of a pin's field agree. -/
def Obligations.FieldOfDoubleRegister : Prop :=
  ∀ (s : State) (p : Nat), p < 16 →
    field s p = (s.modeHi ++ s.modeLo).extractLsb' (4 * p) 4 ∧
    (p < 8 → field s p = s.modeLo.extractLsb' (4 * p) 4) ∧
    (8 ≤ p → field s p = s.modeHi.extractLsb' (4 * (p - 8)) 4)

/-- R44: the electrical state of a pin by bank clock and mode code. -/
def Obligations.PinElectricalState : Prop :=
  ∀ (s : State) (p : Nat), s.cfg.Valid → p < 16 →
    (clkGpio s = false → pinOut s p = .unspecified) ∧
    (clkGpio s = true →
      (field s p = s.cfg.encOutPp → pinOut s p = .driven (s.out.getLsbD p)) ∧
      (field s p = s.cfg.encInFloat → pinOut s p = .undriven) ∧
      (field s p = s.cfg.encAfPp → p = s.cfg.uartTxPin.val → pinOut s p = .peripheral .uartTx) ∧
      (field s p = s.cfg.encAfPp → p ≠ s.cfg.uartTxPin.val → pinOut s p = .peripheral .unspecified) ∧
      (field s p ≠ s.cfg.encOutPp → field s p ≠ s.cfg.encInFloat → field s p ≠ s.cfg.encAfPp →
        pinOut s p = .unspecified))

/-! ## Driver operations, uninterrupted -/

/-- R165, R166: `enable_clock` sets one bit of `CLKEN` in two transactions and changes nothing else, but for the
settling flag with `SETTLE_MODE = nondet`; enabling a clock that is on changes no component of the block. -/
def Obligations.EnableClockSetsItsBit : Prop :=
  ∀ (s : State) (which : Periph), s.cfg.Valid → s.AtCall →
    ∃ u, exec (.enableClock which) s = .next u ∧
      exec (.enableClock which) u = .next { s.finish with
        clken := s.clken ||| clkMask s.cfg which
        settlingGpio := s.settlingGpio ||
          ((s.cfg.settleMode == .nondet) && (which == .gpio) && !s.clken.getLsbD s.cfg.clkBitGpio)
        settlingUart := s.settlingUart ||
          ((s.cfg.settleMode == .nondet) && (which == .uart) && !s.clken.getLsbD s.cfg.clkBitUart) } ∧
      (s.clken.getLsbD (clkBit s.cfg which) = true → exec (.enableClock which) u = .next s.finish)

/-- R170: `set_pin_mode` ends with its field inserted and nothing else changed, in two transactions or, split, in four,
between which the field is clear. -/
def Obligations.SetPinModeInsertsField : Prop :=
  ∀ (s : State) (p : Nat) (m : PinMode), s.AtCall → clkGpio s = true → p < 16 →
    execN (.setPinMode p m) (setPinModeSteps s.cfg) s =
      .next (if p < 8 then { s.finish with modeLo := ins s.cfg s.modeLo p m }
             else { s.finish with modeHi := ins s.cfg s.modeHi p m }) ∧
    (s.cfg.pinmodeSplit = true → ∃ u, execN (.setPinMode p m) 2 s = .next u ∧ field u p = 0)

/-- R171: every other pin's field, and the mode register that does not hold the target, stay as they are. -/
def Obligations.SetPinModePreservesOtherPins : Prop :=
  ∀ (s : State) (p : Nat) (m : PinMode), s.AtCall → clkGpio s = true → p < 16 →
    ∃ t, execN (.setPinMode p m) (setPinModeSteps s.cfg) s = .next t ∧
      (∀ q, q < 16 → q ≠ p → field t q = field s q) ∧
      (p < 8 → t.modeHi = s.modeHi) ∧ (8 ≤ p → t.modeLo = s.modeLo)

/-- R172: the mode register read right after `set_pin_mode` holds the mode's code in the pin's field. -/
def Obligations.SetPinModeReadsBack : Prop :=
  ∀ (s : State) (p : Nat) (m : PinMode), s.AtCall → clkGpio s = true → p < 16 →
    ∃ t u, execN (.setPinMode p m) (setPinModeSteps s.cfg) s = .next t ∧ exec (readOf (mreg p)) t = .next u ∧
      u.me.ret.extractLsb' (sh p) 4 = enc s.cfg m ∧ field t p = enc s.cfg m

/-- R173: `toggle` flips its bit of `OUT` in two transactions and changes nothing else. -/
def Obligations.ToggleFlipsItsBit : Prop :=
  ∀ (s : State) (p : Nat), s.AtCall → clkGpio s = true → p < 16 →
    ∃ u, exec (.toggle p) s = .next u ∧ u.out = s.out ∧
      exec (.toggle p) u = .next { s.afterDraw.finish with out := s.out ^^^ (1#16 <<< p) }

/-- R174: two toggles in a row leave `OUT` as it was, all sixteen bits. -/
def Obligations.ToggleTwiceRestoresOutput : Prop :=
  ∀ (s : State) (p : Nat), s.AtCall → clkGpio s = true → p < 16 →
    ∃ t u, execN (.toggle p) 2 s = .next t ∧ execN (.toggle p) 2 t = .next u ∧ u.out = s.out

/-- R175: `write` sets or clears its bit of `OUT` in two transactions and changes nothing else. -/
def Obligations.WriteSetsItsBit : Prop :=
  ∀ (s : State) (p : Nat), s.AtCall → clkGpio s = true → p < 16 →
    (∃ u, exec (.write p .high) s = .next u ∧ u.out = s.out ∧
      exec (.write p .high) u = .next { s.afterDraw.finish with out := s.out ||| (1#16 <<< p) }) ∧
    (∃ u, exec (.write p .low) s = .next u ∧ u.out = s.out ∧
      exec (.write p .low) u = .next { s.afterDraw.finish with out := s.out &&& ~~~(1#16 <<< p) })

/-- R136, R167, R221: while the GPIO bank is gated, a pin operation runs through without effect and marks the run. -/
def Obligations.GatedPinOperationHasNoEffect : Prop :=
  ∀ (s : State) (p : Nat) (m : PinMode) (level : Level), s.AtCall → clkGpio s = false → p < 16 →
    (∃ t, execN (.setPinMode p m) (setPinModeSteps s.cfg) s = .next t ∧
      t = { s.finish with viol := true, draws := t.draws, drawn := t.drawn }) ∧
    execN (.toggle p) 2 s = .next { s.afterDraw.finish with viol := true } ∧
    execN (.write p level) 2 s = .next { s.afterDraw.finish with viol := true }

/-- Each step of a pin operation and of `busy_wait` answers a next state, in every state (R170, R173, R175, R208). -/
def Obligations.LocalOperationsAlwaysStep : Prop :=
  ∀ (s : State) (p : Nat) (m : PinMode) (level : Level) (k : Word), p < 16 →
    (∃ t, exec (.setPinMode p m) s = .next t) ∧ (∃ t, exec (.toggle p) s = .next t) ∧
    (∃ t, exec (.write p level) s = .next t) ∧ ∃ t, exec (.busyWait k) s = .next t

/-- R94, R221: a call with an operand outside its type is refused in every state. -/
def Obligations.IllFormedCallRefused : Prop :=
  ∀ s : State,
    (∀ p m level, 16 ≤ p → exec (.setPinMode p m) s = .refused .illFormed ∧
      exec (.toggle p) s = .refused .illFormed ∧ exec (.write p level) s = .refused .illFormed) ∧
    (∀ clk, exec (.uartInit 0 clk) s = .refused .illFormed) ∧
    (∀ str, 0x00#8 ∈ str → exec (.sendString str) s = .refused .illFormed)

/-- R176: from reset, clock the bank, make the pin an output, write it high, read, write it low, read. -/
def Obligations.OutputPinEndToEnd : Prop :=
  ∀ (c : Cfg) (p : Nat), c.Valid → c.settleMode = .none → p < 16 →
    ∃ s₁ s₂ s₃ s₄ s₅ s₆,
      execN (.enableClock .gpio) 2 (State.resetWith c) = .next s₁ ∧
      execN (.setPinMode p .outPp) (setPinModeSteps c) s₁ = .next s₂ ∧
      execN (.write p .high) 2 s₂ = .next s₃ ∧ pinOut s₃ p = .driven true ∧
      exec .rdOut s₃ = .next s₄ ∧ s₄.me.ret.getLsbD p = true ∧
      execN (.write p .low) 2 s₄ = .next s₅ ∧ pinOut s₅ p = .driven false ∧
      exec .rdOut s₅ = .next s₆ ∧ s₆.me.ret.getLsbD p = false ∧ s₆.viol = false

/-- R74: two masters toggle two pins, each reading before the other writes: the first one's toggle is lost. Run one
after the other, both take effect. -/
def Obligations.InterleavedTogglesLoseOne : Prop :=
  ∀ (s : State) (a b p q : Nat), a ≠ b → a < s.masters.length → b < s.masters.length →
    (s.runAs a).AtCall → (s.runAs b).AtCall → clkGpio s = true → p < 16 → q < 16 → p ≠ q →
    (∃ s₁ s₂ s₃ s₄, exec (.toggle p) (s.runAs a) = .next s₁ ∧ exec (.toggle q) (s₁.runAs b) = .next s₂ ∧
      exec (.toggle p) (s₂.runAs a) = .next s₃ ∧ exec (.toggle q) (s₃.runAs b) = .next s₄ ∧
      s₄.out = s.out ^^^ (1#16 <<< q)) ∧
    (∃ t₁ t₂, execN (.toggle p) 2 (s.runAs a) = .next t₁ ∧ execN (.toggle q) 2 (t₁.runAs b) = .next t₂ ∧
      t₂.out = s.out ^^^ (1#16 <<< p) ^^^ (1#16 <<< q))

/-- R185, R187: `uart_init` ends `Configured`, with the divisor stored, and changes nothing but `CLKEN`'s two bits, the
two pins' fields, `BAUD` and `CTRL`. -/
def Obligations.UartInitConfigures : Prop :=
  ∀ (s : State) (baud clk : Word), s.cfg.Valid → s.AtCall → s.Settled → s.txbuf = none → s.rxbuf = none →
    baud ≠ 0 → 1 ≤ clk.toNat / baud.toNat → clk.toNat / baud.toNat < 2 ^ s.cfg.baudWidth →
    (∃ u, exec (.uartInit baud clk) s = .next u) ∧
    ∃ t, execN (.uartInit baud clk) (if s.cfg.pinmodeSplit then 14 else 10) s = .next t ∧
      configured t = true ∧ t.baud.toNat = clk.toNat / baud.toNat ∧
      (∀ q, q < 16 → q ≠ s.cfg.uartTxPin.val → q ≠ s.cfg.uartRxPin.val → field t q = field s q) ∧
      t = { s.finish with
        clken := s.clken ||| clkMask s.cfg .uart ||| clkMask s.cfg .gpio
        modeLo := t.modeLo, modeHi := t.modeHi, baud := t.baud, baudValid := true
        ctrl := { re := true, te := true, ue := true } }

/-- R186: a divisor of 0 or too wide is refused at the write of `BAUD`, before `CTRL` is written. -/
def Obligations.UartInitRefusesBadDivisor : Prop :=
  ∀ (s : State) (baud clk : Word), s.cfg.Valid → s.AtCall → s.Settled → baud ≠ 0 →
    clk.toNat / baud.toNat = 0 ∨ 2 ^ s.cfg.baudWidth ≤ clk.toNat / baud.toNat →
    ∃ t, execN (.uartInit baud clk) (if s.cfg.pinmodeSplit then 12 else 8) s = .next t ∧
      exec (.uartInit baud clk) t = .refused .writeBaudRange ∧ t.ctrl = s.ctrl ∧ t.baud = s.baud

/-- R193: a transport call when the UART is not `Configured` marks the run and changes nothing else of the block; when
it is, it changes nothing of the block. That the check is a step of its own is the model's choice (log entry 8). -/
def Obligations.TransportCallChecksConfigured : Prop :=
  ∀ (s : State) (i : Instr), s.AtCall → i.wellFormed = true →
    (∃ b, i = .sendByte b) ∨ i = .recvByte ∨ (∃ str, i = .sendString str) ∨ (∃ n, i = .sendUnsignedDecimal n) →
    ∃ t, exec i s = .next t ∧ t = { s with viol := s.viol || !configured s, masters := t.masters } ∧ t.me.label = 1

/-- R190, R191: with the transmit buffer empty, `send_byte` polls once and writes the byte once, after the step of the
call (log entry 8). -/
def Obligations.SendByteFillsBuffer : Prop :=
  ∀ (s : State) (b : Byte), s.cfg.Valid → s.AtCall → configured s = true → s.txbuf = none →
    ∃ u v, exec (.sendByte b) s = .next u ∧ exec (.sendByte b) u = .next v ∧ u.txbuf = none ∧ v.txbuf = none ∧
      exec (.sendByte b) v = .next { s.afterDraw.finish with txbuf := some b }

/-- R191, R194, R222: while the transmit buffer is full `send_byte` polls, any number of times, and changes nothing of
the block; once the transmit engine has stepped it polls once more and writes the byte. -/
def Obligations.SendBytePollsUntilEmpty : Prop :=
  ∀ (s : State) (b old : Byte) (k : Nat), s.cfg.Valid → s.AtCall → configured s = true → s.txbuf = some old →
    ∃ t u, execN (.sendByte b) (k + 1) s = .next t ∧
      t = { s with masters := t.masters, draws := t.draws, drawn := t.drawn } ∧ t.me.label = 1 ∧
      execN (.sendByte b) 2 (txDrain t) = .next u ∧
      u = { s.finish with txbuf := some b, txLine := s.txLine ++ [(old, true)], draws := u.draws, drawn := u.drawn }

/-- R192, R191: with a byte in the receive buffer `recv_byte` polls once, takes the byte out, and returns it,
after the step of the call (log entry 8). -/
def Obligations.RecvByteReturnsByte : Prop :=
  ∀ (s : State) (c : Byte), s.cfg.Valid → s.AtCall → configured s = true → s.rxbuf = some c →
    ∃ u v, exec .recvByte s = .next u ∧ exec .recvByte u = .next v ∧ v.rxbuf = some c ∧
      exec .recvByte v = .next (State.finishWith { s.afterDraw.afterDraw with rxbuf := none } (c.setWidth 32))

/-- R192, R194: while the receive buffer is empty `recv_byte` polls, any number of times, and changes nothing of the
block. -/
def Obligations.RecvBytePollsWhileEmpty : Prop :=
  ∀ (s : State) (k : Nat), s.cfg.Valid → s.AtCall → configured s = true → s.rxbuf = none →
    ∃ t, execN .recvByte (k + 1) s = .next t ∧
      t = { s with masters := t.masters, draws := t.draws, drawn := t.drawn } ∧ t.me.label = 1

/-- R205, R195: under a schedule in which the transmit engine keeps up, `send_string` returns having handed exactly
`crlf(s)` to the line, in order, all routed, the last byte perhaps still in the buffer; nothing else changes. -/
def Obligations.SendStringSendsCrlf : Prop :=
  ∀ (s : State) (str : List Byte), s.cfg.Valid → s.AtCall → configured s = true → (∀ c ∈ str, c ≠ 0x00) →
    (∃ u, exec (.sendString str) s = .next u) ∧
    ∃ n t, execDrainN (.sendString str) n s = .next t ∧
      sentRouted t = sentRouted s ++ (crlf str).map (fun b => (b, true)) ∧
      t = { s.finish with txbuf := t.txbuf, txLine := t.txLine, draws := t.draws, drawn := t.drawn }

/-- R206, R195: likewise `send_unsigned_decimal` hands exactly `dec(n)` to the line. -/
def Obligations.SendUnsignedDecimalSendsDigits : Prop :=
  ∀ (s : State) (n : Word), s.cfg.Valid → s.AtCall → configured s = true →
    (∃ u, exec (.sendUnsignedDecimal n) s = .next u) ∧
    ∃ k t, execDrainN (.sendUnsignedDecimal n) k s = .next t ∧
      sentRouted t = sentRouted s ++ (dec n).map (fun b => (b, true)) ∧
      t = { s.finish with txbuf := t.txbuf, txLine := t.txLine, draws := t.draws, drawn := t.drawn }

/-- R206: `dec(n)` is the minimal decimal representation: digit characters, the value of `n`, no leading zero but for
zero itself, at most ten characters. -/
def Obligations.DecIsMinimalDecimal : Prop :=
  ∀ n : Word,
    (∀ c ∈ dec n, 0x30 ≤ c.toNat ∧ c.toNat ≤ 0x39) ∧
    (dec n).foldl (fun acc c => acc * 10 + (c.toNat - 0x30)) 0 = n.toNat ∧
    (n ≠ 0 → (dec n).head? ≠ some 0x30) ∧ (n = 0 → dec n = [0x30]) ∧
    1 ≤ (dec n).length ∧ (dec n).length ≤ 10

/-- R206, R207: the conversion takes one pass per digit, leaves the digits in the buffer from the cursor up to index 9
and the terminator at index 10, and the cursor never passes the buffer's start. One step per pass is
the model's choice (log entry 9). -/
def Obligations.ConversionFillsBuffer : Prop :=
  ∀ (s : State) (n : Word), s.AtCall → configured s = true →
    ∃ t, execN (.sendUnsignedDecimal n) (2 + (dec n).length) s = .next t ∧ t = { s with masters := t.masters } ∧
      t.me.label = 3 ∧ t.me.tmp.i.toNat + (dec n).length = 10 ∧ t.me.tmp.n = 0 ∧
      (t.me.tmp.buf.toList.drop t.me.tmp.i.toNat) = dec n ++ [0x00]

/-- R208: `busy_wait` issues no transaction, always returns, and changes nothing. One step per pass, and no pass for 0,
is the model's choice (log entry 10). -/
def Obligations.BusyWaitReturns : Prop :=
  ∀ (s : State) (k : Word), s.AtCall → execN (.busyWait k) (k.toNat + 1) s = .next s.finish

/-- R155: under `A_TX_PROGRESS`, in every run whatever it supplies, a transmitter that stays on empties its buffer. -/
def Obligations.TxProgressEmptiesBuffer : Prop :=
  ∀ (e : Nat → Moment) (r : Nat → State), IsRun e r → TxProgress e r → ∀ n, (∀ m, n ≤ m → txOn (r m) = true) →
    ∃ m, n ≤ m ∧ (r m).txbuf = none
end

