-- ==== Sys2Proof/Laws/State.lean ====
section
/-! SUPPORT. One lemma per field and per update of the state, true by rfl, and what the updates of the running
master's record do to it. -/

namespace Sys2Proof.Machine

@[simp] theorem State.setMe_cfg (s : State) (m : Master) : (s.setMe m).cfg = s.cfg := rfl
@[simp] theorem State.setMe_modeLo (s : State) (m : Master) : (s.setMe m).modeLo = s.modeLo := rfl
@[simp] theorem State.setMe_modeHi (s : State) (m : Master) : (s.setMe m).modeHi = s.modeHi := rfl
@[simp] theorem State.setMe_out (s : State) (m : Master) : (s.setMe m).out = s.out := rfl
@[simp] theorem State.setMe_baud (s : State) (m : Master) : (s.setMe m).baud = s.baud := rfl
@[simp] theorem State.setMe_ctrl (s : State) (m : Master) : (s.setMe m).ctrl = s.ctrl := rfl
@[simp] theorem State.setMe_clken (s : State) (m : Master) : (s.setMe m).clken = s.clken := rfl
@[simp] theorem State.setMe_txbuf (s : State) (m : Master) : (s.setMe m).txbuf = s.txbuf := rfl
@[simp] theorem State.setMe_rxbuf (s : State) (m : Master) : (s.setMe m).rxbuf = s.rxbuf := rfl
@[simp] theorem State.setMe_settlingGpio (s : State) (m : Master) : (s.setMe m).settlingGpio = s.settlingGpio := rfl
@[simp] theorem State.setMe_settlingUart (s : State) (m : Master) : (s.setMe m).settlingUart = s.settlingUart := rfl
@[simp] theorem State.setMe_baudValid (s : State) (m : Master) : (s.setMe m).baudValid = s.baudValid := rfl
@[simp] theorem State.setMe_viol (s : State) (m : Master) : (s.setMe m).viol = s.viol := rfl
@[simp] theorem State.setMe_txLine (s : State) (m : Master) : (s.setMe m).txLine = s.txLine := rfl
@[simp] theorem State.setMe_rxIn (s : State) (m : Master) : (s.setMe m).rxIn = s.rxIn := rfl
@[simp] theorem State.setMe_rxPos (s : State) (m : Master) : (s.setMe m).rxPos = s.rxPos := rfl
@[simp] theorem State.setMe_rxLost (s : State) (m : Master) : (s.setMe m).rxLost = s.rxLost := rfl
@[simp] theorem State.setMe_cur (s : State) (m : Master) : (s.setMe m).cur = s.cur := rfl
@[simp] theorem State.setMe_sched (s : State) (m : Master) : (s.setMe m).sched = s.sched := rfl
@[simp] theorem State.setMe_ticks (s : State) (m : Master) : (s.setMe m).ticks = s.ticks := rfl
@[simp] theorem State.setMe_draws (s : State) (m : Master) : (s.setMe m).draws = s.draws := rfl
@[simp] theorem State.setMe_drawn (s : State) (m : Master) : (s.setMe m).drawn = s.drawn := rfl

@[simp] theorem State.violate_cfg (s : State) : s.violate.cfg = s.cfg := rfl
@[simp] theorem State.violate_modeLo (s : State) : s.violate.modeLo = s.modeLo := rfl
@[simp] theorem State.violate_modeHi (s : State) : s.violate.modeHi = s.modeHi := rfl
@[simp] theorem State.violate_out (s : State) : s.violate.out = s.out := rfl
@[simp] theorem State.violate_baud (s : State) : s.violate.baud = s.baud := rfl
@[simp] theorem State.violate_ctrl (s : State) : s.violate.ctrl = s.ctrl := rfl
@[simp] theorem State.violate_clken (s : State) : s.violate.clken = s.clken := rfl
@[simp] theorem State.violate_txbuf (s : State) : s.violate.txbuf = s.txbuf := rfl
@[simp] theorem State.violate_rxbuf (s : State) : s.violate.rxbuf = s.rxbuf := rfl
@[simp] theorem State.violate_settlingGpio (s : State) : s.violate.settlingGpio = s.settlingGpio := rfl
@[simp] theorem State.violate_settlingUart (s : State) : s.violate.settlingUart = s.settlingUart := rfl
@[simp] theorem State.violate_baudValid (s : State) : s.violate.baudValid = s.baudValid := rfl
@[simp] theorem State.violate_txLine (s : State) : s.violate.txLine = s.txLine := rfl
@[simp] theorem State.violate_rxIn (s : State) : s.violate.rxIn = s.rxIn := rfl
@[simp] theorem State.violate_rxPos (s : State) : s.violate.rxPos = s.rxPos := rfl
@[simp] theorem State.violate_rxLost (s : State) : s.violate.rxLost = s.rxLost := rfl
@[simp] theorem State.violate_masters (s : State) : s.violate.masters = s.masters := rfl
@[simp] theorem State.violate_cur (s : State) : s.violate.cur = s.cur := rfl
@[simp] theorem State.violate_sched (s : State) : s.violate.sched = s.sched := rfl
@[simp] theorem State.violate_ticks (s : State) : s.violate.ticks = s.ticks := rfl
@[simp] theorem State.violate_draws (s : State) : s.violate.draws = s.draws := rfl
@[simp] theorem State.violate_drawn (s : State) : s.violate.drawn = s.drawn := rfl

@[simp] theorem State.afterDraw_cfg (s : State) : s.afterDraw.cfg = s.cfg := rfl
@[simp] theorem State.afterDraw_modeLo (s : State) : s.afterDraw.modeLo = s.modeLo := rfl
@[simp] theorem State.afterDraw_modeHi (s : State) : s.afterDraw.modeHi = s.modeHi := rfl
@[simp] theorem State.afterDraw_out (s : State) : s.afterDraw.out = s.out := rfl
@[simp] theorem State.afterDraw_baud (s : State) : s.afterDraw.baud = s.baud := rfl
@[simp] theorem State.afterDraw_ctrl (s : State) : s.afterDraw.ctrl = s.ctrl := rfl
@[simp] theorem State.afterDraw_clken (s : State) : s.afterDraw.clken = s.clken := rfl
@[simp] theorem State.afterDraw_txbuf (s : State) : s.afterDraw.txbuf = s.txbuf := rfl
@[simp] theorem State.afterDraw_rxbuf (s : State) : s.afterDraw.rxbuf = s.rxbuf := rfl
@[simp] theorem State.afterDraw_settlingGpio (s : State) : s.afterDraw.settlingGpio = s.settlingGpio := rfl
@[simp] theorem State.afterDraw_settlingUart (s : State) : s.afterDraw.settlingUart = s.settlingUart := rfl
@[simp] theorem State.afterDraw_baudValid (s : State) : s.afterDraw.baudValid = s.baudValid := rfl
@[simp] theorem State.afterDraw_viol (s : State) : s.afterDraw.viol = s.viol := rfl
@[simp] theorem State.afterDraw_txLine (s : State) : s.afterDraw.txLine = s.txLine := rfl
@[simp] theorem State.afterDraw_rxIn (s : State) : s.afterDraw.rxIn = s.rxIn := rfl
@[simp] theorem State.afterDraw_rxPos (s : State) : s.afterDraw.rxPos = s.rxPos := rfl
@[simp] theorem State.afterDraw_rxLost (s : State) : s.afterDraw.rxLost = s.rxLost := rfl
@[simp] theorem State.afterDraw_masters (s : State) : s.afterDraw.masters = s.masters := rfl
@[simp] theorem State.afterDraw_cur (s : State) : s.afterDraw.cur = s.cur := rfl
@[simp] theorem State.afterDraw_sched (s : State) : s.afterDraw.sched = s.sched := rfl
@[simp] theorem State.afterDraw_ticks (s : State) : s.afterDraw.ticks = s.ticks := rfl

@[simp] theorem State.scheduled_cfg (s : State) : s.scheduled.cfg = s.cfg := rfl
@[simp] theorem State.scheduled_modeLo (s : State) : s.scheduled.modeLo = s.modeLo := rfl
@[simp] theorem State.scheduled_modeHi (s : State) : s.scheduled.modeHi = s.modeHi := rfl
@[simp] theorem State.scheduled_out (s : State) : s.scheduled.out = s.out := rfl
@[simp] theorem State.scheduled_baud (s : State) : s.scheduled.baud = s.baud := rfl
@[simp] theorem State.scheduled_ctrl (s : State) : s.scheduled.ctrl = s.ctrl := rfl
@[simp] theorem State.scheduled_clken (s : State) : s.scheduled.clken = s.clken := rfl
@[simp] theorem State.scheduled_txbuf (s : State) : s.scheduled.txbuf = s.txbuf := rfl
@[simp] theorem State.scheduled_rxbuf (s : State) : s.scheduled.rxbuf = s.rxbuf := rfl
@[simp] theorem State.scheduled_settlingGpio (s : State) : s.scheduled.settlingGpio = s.settlingGpio := rfl
@[simp] theorem State.scheduled_settlingUart (s : State) : s.scheduled.settlingUart = s.settlingUart := rfl
@[simp] theorem State.scheduled_baudValid (s : State) : s.scheduled.baudValid = s.baudValid := rfl
@[simp] theorem State.scheduled_viol (s : State) : s.scheduled.viol = s.viol := rfl
@[simp] theorem State.scheduled_txLine (s : State) : s.scheduled.txLine = s.txLine := rfl
@[simp] theorem State.scheduled_rxIn (s : State) : s.scheduled.rxIn = s.rxIn := rfl
@[simp] theorem State.scheduled_rxPos (s : State) : s.scheduled.rxPos = s.rxPos := rfl
@[simp] theorem State.scheduled_rxLost (s : State) : s.scheduled.rxLost = s.rxLost := rfl
@[simp] theorem State.scheduled_masters (s : State) : s.scheduled.masters = s.masters := rfl
@[simp] theorem State.scheduled_cur (s : State) : s.scheduled.cur = s.cur := rfl
@[simp] theorem State.scheduled_draws (s : State) : s.scheduled.draws = s.draws := rfl
@[simp] theorem State.scheduled_drawn (s : State) : s.scheduled.drawn = s.drawn := rfl

@[simp] theorem State.runAs_cfg (s : State) (k : Nat) : (s.runAs k).cfg = s.cfg := rfl
@[simp] theorem State.runAs_modeLo (s : State) (k : Nat) : (s.runAs k).modeLo = s.modeLo := rfl
@[simp] theorem State.runAs_modeHi (s : State) (k : Nat) : (s.runAs k).modeHi = s.modeHi := rfl
@[simp] theorem State.runAs_out (s : State) (k : Nat) : (s.runAs k).out = s.out := rfl
@[simp] theorem State.runAs_baud (s : State) (k : Nat) : (s.runAs k).baud = s.baud := rfl
@[simp] theorem State.runAs_ctrl (s : State) (k : Nat) : (s.runAs k).ctrl = s.ctrl := rfl
@[simp] theorem State.runAs_clken (s : State) (k : Nat) : (s.runAs k).clken = s.clken := rfl
@[simp] theorem State.runAs_txbuf (s : State) (k : Nat) : (s.runAs k).txbuf = s.txbuf := rfl
@[simp] theorem State.runAs_rxbuf (s : State) (k : Nat) : (s.runAs k).rxbuf = s.rxbuf := rfl
@[simp] theorem State.runAs_settlingGpio (s : State) (k : Nat) : (s.runAs k).settlingGpio = s.settlingGpio := rfl
@[simp] theorem State.runAs_settlingUart (s : State) (k : Nat) : (s.runAs k).settlingUart = s.settlingUart := rfl
@[simp] theorem State.runAs_baudValid (s : State) (k : Nat) : (s.runAs k).baudValid = s.baudValid := rfl
@[simp] theorem State.runAs_viol (s : State) (k : Nat) : (s.runAs k).viol = s.viol := rfl
@[simp] theorem State.runAs_txLine (s : State) (k : Nat) : (s.runAs k).txLine = s.txLine := rfl
@[simp] theorem State.runAs_rxIn (s : State) (k : Nat) : (s.runAs k).rxIn = s.rxIn := rfl
@[simp] theorem State.runAs_rxPos (s : State) (k : Nat) : (s.runAs k).rxPos = s.rxPos := rfl
@[simp] theorem State.runAs_rxLost (s : State) (k : Nat) : (s.runAs k).rxLost = s.rxLost := rfl
@[simp] theorem State.runAs_masters (s : State) (k : Nat) : (s.runAs k).masters = s.masters := rfl
@[simp] theorem State.runAs_sched (s : State) (k : Nat) : (s.runAs k).sched = s.sched := rfl
@[simp] theorem State.runAs_ticks (s : State) (k : Nat) : (s.runAs k).ticks = s.ticks := rfl
@[simp] theorem State.runAs_draws (s : State) (k : Nat) : (s.runAs k).draws = s.draws := rfl
@[simp] theorem State.runAs_drawn (s : State) (k : Nat) : (s.runAs k).drawn = s.drawn := rfl
@[simp] theorem State.runAs_cur (s : State) (k : Nat) : (s.runAs k).cur = k := rfl

@[simp] theorem State.setT_cfg (s : State) (v : Word) : (s.setT v).cfg = s.cfg := rfl
@[simp] theorem State.setT_modeLo (s : State) (v : Word) : (s.setT v).modeLo = s.modeLo := rfl
@[simp] theorem State.setT_modeHi (s : State) (v : Word) : (s.setT v).modeHi = s.modeHi := rfl
@[simp] theorem State.setT_out (s : State) (v : Word) : (s.setT v).out = s.out := rfl
@[simp] theorem State.setT_baud (s : State) (v : Word) : (s.setT v).baud = s.baud := rfl
@[simp] theorem State.setT_ctrl (s : State) (v : Word) : (s.setT v).ctrl = s.ctrl := rfl
@[simp] theorem State.setT_clken (s : State) (v : Word) : (s.setT v).clken = s.clken := rfl
@[simp] theorem State.setT_txbuf (s : State) (v : Word) : (s.setT v).txbuf = s.txbuf := rfl
@[simp] theorem State.setT_rxbuf (s : State) (v : Word) : (s.setT v).rxbuf = s.rxbuf := rfl
@[simp] theorem State.setT_settlingGpio (s : State) (v : Word) : (s.setT v).settlingGpio = s.settlingGpio := rfl
@[simp] theorem State.setT_settlingUart (s : State) (v : Word) : (s.setT v).settlingUart = s.settlingUart := rfl
@[simp] theorem State.setT_baudValid (s : State) (v : Word) : (s.setT v).baudValid = s.baudValid := rfl
@[simp] theorem State.setT_viol (s : State) (v : Word) : (s.setT v).viol = s.viol := rfl
@[simp] theorem State.setT_txLine (s : State) (v : Word) : (s.setT v).txLine = s.txLine := rfl
@[simp] theorem State.setT_rxIn (s : State) (v : Word) : (s.setT v).rxIn = s.rxIn := rfl
@[simp] theorem State.setT_rxPos (s : State) (v : Word) : (s.setT v).rxPos = s.rxPos := rfl
@[simp] theorem State.setT_rxLost (s : State) (v : Word) : (s.setT v).rxLost = s.rxLost := rfl
@[simp] theorem State.setT_cur (s : State) (v : Word) : (s.setT v).cur = s.cur := rfl
@[simp] theorem State.setT_sched (s : State) (v : Word) : (s.setT v).sched = s.sched := rfl
@[simp] theorem State.setT_ticks (s : State) (v : Word) : (s.setT v).ticks = s.ticks := rfl
@[simp] theorem State.setT_draws (s : State) (v : Word) : (s.setT v).draws = s.draws := rfl
@[simp] theorem State.setT_drawn (s : State) (v : Word) : (s.setT v).drawn = s.drawn := rfl

@[simp] theorem State.setEntered_cfg (s : State) (b : Bool) : (s.setEntered b).cfg = s.cfg := rfl
@[simp] theorem State.setEntered_modeLo (s : State) (b : Bool) : (s.setEntered b).modeLo = s.modeLo := rfl
@[simp] theorem State.setEntered_modeHi (s : State) (b : Bool) : (s.setEntered b).modeHi = s.modeHi := rfl
@[simp] theorem State.setEntered_out (s : State) (b : Bool) : (s.setEntered b).out = s.out := rfl
@[simp] theorem State.setEntered_baud (s : State) (b : Bool) : (s.setEntered b).baud = s.baud := rfl
@[simp] theorem State.setEntered_ctrl (s : State) (b : Bool) : (s.setEntered b).ctrl = s.ctrl := rfl
@[simp] theorem State.setEntered_clken (s : State) (b : Bool) : (s.setEntered b).clken = s.clken := rfl
@[simp] theorem State.setEntered_txbuf (s : State) (b : Bool) : (s.setEntered b).txbuf = s.txbuf := rfl
@[simp] theorem State.setEntered_rxbuf (s : State) (b : Bool) : (s.setEntered b).rxbuf = s.rxbuf := rfl
@[simp] theorem State.setEntered_settlingGpio (s : State) (b : Bool) : (s.setEntered b).settlingGpio = s.settlingGpio := rfl
@[simp] theorem State.setEntered_settlingUart (s : State) (b : Bool) : (s.setEntered b).settlingUart = s.settlingUart := rfl
@[simp] theorem State.setEntered_baudValid (s : State) (b : Bool) : (s.setEntered b).baudValid = s.baudValid := rfl
@[simp] theorem State.setEntered_viol (s : State) (b : Bool) : (s.setEntered b).viol = s.viol := rfl
@[simp] theorem State.setEntered_txLine (s : State) (b : Bool) : (s.setEntered b).txLine = s.txLine := rfl
@[simp] theorem State.setEntered_rxIn (s : State) (b : Bool) : (s.setEntered b).rxIn = s.rxIn := rfl
@[simp] theorem State.setEntered_rxPos (s : State) (b : Bool) : (s.setEntered b).rxPos = s.rxPos := rfl
@[simp] theorem State.setEntered_rxLost (s : State) (b : Bool) : (s.setEntered b).rxLost = s.rxLost := rfl
@[simp] theorem State.setEntered_cur (s : State) (b : Bool) : (s.setEntered b).cur = s.cur := rfl
@[simp] theorem State.setEntered_sched (s : State) (b : Bool) : (s.setEntered b).sched = s.sched := rfl
@[simp] theorem State.setEntered_ticks (s : State) (b : Bool) : (s.setEntered b).ticks = s.ticks := rfl
@[simp] theorem State.setEntered_draws (s : State) (b : Bool) : (s.setEntered b).draws = s.draws := rfl
@[simp] theorem State.setEntered_drawn (s : State) (b : Bool) : (s.setEntered b).drawn = s.drawn := rfl

@[simp] theorem State.finish_cfg (s : State) : s.finish.cfg = s.cfg := rfl
@[simp] theorem State.finish_modeLo (s : State) : s.finish.modeLo = s.modeLo := rfl
@[simp] theorem State.finish_modeHi (s : State) : s.finish.modeHi = s.modeHi := rfl
@[simp] theorem State.finish_out (s : State) : s.finish.out = s.out := rfl
@[simp] theorem State.finish_baud (s : State) : s.finish.baud = s.baud := rfl
@[simp] theorem State.finish_ctrl (s : State) : s.finish.ctrl = s.ctrl := rfl
@[simp] theorem State.finish_clken (s : State) : s.finish.clken = s.clken := rfl
@[simp] theorem State.finish_txbuf (s : State) : s.finish.txbuf = s.txbuf := rfl
@[simp] theorem State.finish_rxbuf (s : State) : s.finish.rxbuf = s.rxbuf := rfl
@[simp] theorem State.finish_settlingGpio (s : State) : s.finish.settlingGpio = s.settlingGpio := rfl
@[simp] theorem State.finish_settlingUart (s : State) : s.finish.settlingUart = s.settlingUart := rfl
@[simp] theorem State.finish_baudValid (s : State) : s.finish.baudValid = s.baudValid := rfl
@[simp] theorem State.finish_viol (s : State) : s.finish.viol = s.viol := rfl
@[simp] theorem State.finish_txLine (s : State) : s.finish.txLine = s.txLine := rfl
@[simp] theorem State.finish_rxIn (s : State) : s.finish.rxIn = s.rxIn := rfl
@[simp] theorem State.finish_rxPos (s : State) : s.finish.rxPos = s.rxPos := rfl
@[simp] theorem State.finish_rxLost (s : State) : s.finish.rxLost = s.rxLost := rfl
@[simp] theorem State.finish_cur (s : State) : s.finish.cur = s.cur := rfl
@[simp] theorem State.finish_sched (s : State) : s.finish.sched = s.sched := rfl
@[simp] theorem State.finish_ticks (s : State) : s.finish.ticks = s.ticks := rfl
@[simp] theorem State.finish_draws (s : State) : s.finish.draws = s.draws := rfl
@[simp] theorem State.finish_drawn (s : State) : s.finish.drawn = s.drawn := rfl

@[simp] theorem State.finishWith_cfg (s : State) (r : Word) : (s.finishWith r).cfg = s.cfg := rfl
@[simp] theorem State.finishWith_modeLo (s : State) (r : Word) : (s.finishWith r).modeLo = s.modeLo := rfl
@[simp] theorem State.finishWith_modeHi (s : State) (r : Word) : (s.finishWith r).modeHi = s.modeHi := rfl
@[simp] theorem State.finishWith_out (s : State) (r : Word) : (s.finishWith r).out = s.out := rfl
@[simp] theorem State.finishWith_baud (s : State) (r : Word) : (s.finishWith r).baud = s.baud := rfl
@[simp] theorem State.finishWith_ctrl (s : State) (r : Word) : (s.finishWith r).ctrl = s.ctrl := rfl
@[simp] theorem State.finishWith_clken (s : State) (r : Word) : (s.finishWith r).clken = s.clken := rfl
@[simp] theorem State.finishWith_txbuf (s : State) (r : Word) : (s.finishWith r).txbuf = s.txbuf := rfl
@[simp] theorem State.finishWith_rxbuf (s : State) (r : Word) : (s.finishWith r).rxbuf = s.rxbuf := rfl
@[simp] theorem State.finishWith_settlingGpio (s : State) (r : Word) : (s.finishWith r).settlingGpio = s.settlingGpio := rfl
@[simp] theorem State.finishWith_settlingUart (s : State) (r : Word) : (s.finishWith r).settlingUart = s.settlingUart := rfl
@[simp] theorem State.finishWith_baudValid (s : State) (r : Word) : (s.finishWith r).baudValid = s.baudValid := rfl
@[simp] theorem State.finishWith_viol (s : State) (r : Word) : (s.finishWith r).viol = s.viol := rfl
@[simp] theorem State.finishWith_txLine (s : State) (r : Word) : (s.finishWith r).txLine = s.txLine := rfl
@[simp] theorem State.finishWith_rxIn (s : State) (r : Word) : (s.finishWith r).rxIn = s.rxIn := rfl
@[simp] theorem State.finishWith_rxPos (s : State) (r : Word) : (s.finishWith r).rxPos = s.rxPos := rfl
@[simp] theorem State.finishWith_rxLost (s : State) (r : Word) : (s.finishWith r).rxLost = s.rxLost := rfl
@[simp] theorem State.finishWith_cur (s : State) (r : Word) : (s.finishWith r).cur = s.cur := rfl
@[simp] theorem State.finishWith_sched (s : State) (r : Word) : (s.finishWith r).sched = s.sched := rfl
@[simp] theorem State.finishWith_ticks (s : State) (r : Word) : (s.finishWith r).ticks = s.ticks := rfl
@[simp] theorem State.finishWith_draws (s : State) (r : Word) : (s.finishWith r).draws = s.draws := rfl
@[simp] theorem State.finishWith_drawn (s : State) (r : Word) : (s.finishWith r).drawn = s.drawn := rfl

@[simp] theorem State.proceed_cfg (s : State) (len : Nat) (f : Flow) : (s.proceed len f).cfg = s.cfg := rfl
@[simp] theorem State.proceed_modeLo (s : State) (len : Nat) (f : Flow) : (s.proceed len f).modeLo = s.modeLo := rfl
@[simp] theorem State.proceed_modeHi (s : State) (len : Nat) (f : Flow) : (s.proceed len f).modeHi = s.modeHi := rfl
@[simp] theorem State.proceed_out (s : State) (len : Nat) (f : Flow) : (s.proceed len f).out = s.out := rfl
@[simp] theorem State.proceed_baud (s : State) (len : Nat) (f : Flow) : (s.proceed len f).baud = s.baud := rfl
@[simp] theorem State.proceed_ctrl (s : State) (len : Nat) (f : Flow) : (s.proceed len f).ctrl = s.ctrl := rfl
@[simp] theorem State.proceed_clken (s : State) (len : Nat) (f : Flow) : (s.proceed len f).clken = s.clken := rfl
@[simp] theorem State.proceed_txbuf (s : State) (len : Nat) (f : Flow) : (s.proceed len f).txbuf = s.txbuf := rfl
@[simp] theorem State.proceed_rxbuf (s : State) (len : Nat) (f : Flow) : (s.proceed len f).rxbuf = s.rxbuf := rfl
@[simp] theorem State.proceed_settlingGpio (s : State) (len : Nat) (f : Flow) : (s.proceed len f).settlingGpio = s.settlingGpio := rfl
@[simp] theorem State.proceed_settlingUart (s : State) (len : Nat) (f : Flow) : (s.proceed len f).settlingUart = s.settlingUart := rfl
@[simp] theorem State.proceed_baudValid (s : State) (len : Nat) (f : Flow) : (s.proceed len f).baudValid = s.baudValid := rfl
@[simp] theorem State.proceed_viol (s : State) (len : Nat) (f : Flow) : (s.proceed len f).viol = s.viol := rfl
@[simp] theorem State.proceed_txLine (s : State) (len : Nat) (f : Flow) : (s.proceed len f).txLine = s.txLine := rfl
@[simp] theorem State.proceed_rxIn (s : State) (len : Nat) (f : Flow) : (s.proceed len f).rxIn = s.rxIn := rfl
@[simp] theorem State.proceed_rxPos (s : State) (len : Nat) (f : Flow) : (s.proceed len f).rxPos = s.rxPos := rfl
@[simp] theorem State.proceed_rxLost (s : State) (len : Nat) (f : Flow) : (s.proceed len f).rxLost = s.rxLost := rfl
@[simp] theorem State.proceed_cur (s : State) (len : Nat) (f : Flow) : (s.proceed len f).cur = s.cur := rfl
@[simp] theorem State.proceed_sched (s : State) (len : Nat) (f : Flow) : (s.proceed len f).sched = s.sched := rfl
@[simp] theorem State.proceed_ticks (s : State) (len : Nat) (f : Flow) : (s.proceed len f).ticks = s.ticks := rfl
@[simp] theorem State.proceed_draws (s : State) (len : Nat) (f : Flow) : (s.proceed len f).draws = s.draws := rfl
@[simp] theorem State.proceed_drawn (s : State) (len : Nat) (f : Flow) : (s.proceed len f).drawn = s.drawn := rfl

@[simp] theorem State.violate_viol (s : State) : s.violate.viol = true := rfl
@[simp] theorem State.setMe_masters (s : State) (m : Master) : (s.setMe m).masters = s.masters.set s.cur m := rfl
@[simp] theorem State.afterDraw_draws (s : State) : s.afterDraw.draws = s.draws.tail := rfl
@[simp] theorem State.scheduled_sched (s : State) : s.scheduled.sched = s.sched.tail := rfl

theorem State.finish_eq (s : State) : s.finish = s.setMe s.me.finish := rfl
theorem State.finishWith_eq (s : State) (r : Word) : s.finishWith r = s.setMe { s.me.finish with ret := r } := rfl
theorem State.proceed_eq (s : State) (len : Nat) (f : Flow) : s.proceed len f = s.setMe (s.me.proceed len f) := rfl
theorem State.setEntered_eq (s : State) (b : Bool) :
    s.setEntered b = s.setMe { s.me with tmp := { s.me.tmp with entered := b } } := rfl
theorem State.setT_eq (s : State) (v : Word) : s.setT v = s.setMe { s.me with tmp := { s.me.tmp with t := v } } := rfl

@[simp] theorem State.violate_me (s : State) : s.violate.me = s.me := rfl
@[simp] theorem State.afterDraw_me (s : State) : s.afterDraw.me = s.me := rfl
@[simp] theorem State.scheduled_me (s : State) : s.scheduled.me = s.me := rfl

/-- The running master's record reads back as it was written. -/
@[simp] theorem State.me_setMe (s : State) (m : Master) (h : s.cur < s.masters.length) : (s.setMe m).me = m := by
  simp [State.me, State.setMe, List.getD_eq_getElem?_getD, h]

/-- The last write of the running master's record counts. -/
@[simp] theorem State.setMe_setMe (s : State) (m n : Master) : (s.setMe m).setMe n = s.setMe n := by
  simp [State.setMe, List.set_set]

/-- Writing the record back changes nothing. -/
@[simp] theorem State.setMe_me (s : State) : s.setMe s.me = s := by
  by_cases h : s.cur < s.masters.length
  · simp [State.setMe, State.me, List.getD_eq_getElem?_getD, h]
  · rw [State.setMe, List.set_eq_of_length_le (by omega)]

/-- No update of a record changes how many masters there are. -/
@[simp] theorem State.setMe_masters_length (s : State) (m : Master) : (s.setMe m).masters.length = s.masters.length := by
  simp

@[simp] theorem Master.finish_todo (m : Master) : m.finish.todo = m.rest := rfl
@[simp] theorem Master.finish_loop (m : Master) : m.finish.loop = m.loop := rfl
@[simp] theorem Master.finish_label (m : Master) : m.finish.label = 0 := rfl
@[simp] theorem Master.finish_tmp (m : Master) : m.finish.tmp = Temps.clear := rfl
@[simp] theorem Master.finish_ret (m : Master) : m.finish.ret = m.ret := rfl

/-! The predicates of Flags.lean read the block alone, so an update of a master's record, a draw or a violation does
not change them. -/

@[simp] theorem clkGpio_setMe (s : State) (m : Master) : clkGpio (s.setMe m) = clkGpio s := rfl
@[simp] theorem clkUart_setMe (s : State) (m : Master) : clkUart (s.setMe m) = clkUart s := rfl
@[simp] theorem uartOn_setMe (s : State) (m : Master) : uartOn (s.setMe m) = uartOn s := rfl
@[simp] theorem txOn_setMe (s : State) (m : Master) : txOn (s.setMe m) = txOn s := rfl
@[simp] theorem rxOn_setMe (s : State) (m : Master) : rxOn (s.setMe m) = rxOn s := rfl
@[simp] theorem txRouted_setMe (s : State) (m : Master) : txRouted (s.setMe m) = txRouted s := rfl
@[simp] theorem rxPinOk_setMe (s : State) (m : Master) : rxPinOk (s.setMe m) = rxPinOk s := rfl
@[simp] theorem configured_setMe (s : State) (m : Master) : configured (s.setMe m) = configured s := rfl
@[simp] theorem flagTxe_setMe (s : State) (m : Master) : flagTxe (s.setMe m) = flagTxe s := rfl
@[simp] theorem flagRxne_setMe (s : State) (m : Master) : flagRxne (s.setMe m) = flagRxne s := rfl
@[simp] theorem bufferOccupied_setMe (s : State) (m : Master) : bufferOccupied (s.setMe m) = bufferOccupied s := rfl
@[simp] theorem field_setMe (s : State) (p : Nat) (m : Master) : field (s.setMe m) p = field s p := rfl

@[simp] theorem clkGpio_violate (s : State) : clkGpio s.violate = clkGpio s := rfl
@[simp] theorem clkUart_violate (s : State) : clkUart s.violate = clkUart s := rfl
@[simp] theorem uartOn_violate (s : State) : uartOn s.violate = uartOn s := rfl
@[simp] theorem txOn_violate (s : State) : txOn s.violate = txOn s := rfl
@[simp] theorem rxOn_violate (s : State) : rxOn s.violate = rxOn s := rfl
@[simp] theorem txRouted_violate (s : State) : txRouted s.violate = txRouted s := rfl
@[simp] theorem rxPinOk_violate (s : State) : rxPinOk s.violate = rxPinOk s := rfl
@[simp] theorem configured_violate (s : State) : configured s.violate = configured s := rfl
@[simp] theorem flagTxe_violate (s : State) : flagTxe s.violate = flagTxe s := rfl
@[simp] theorem flagRxne_violate (s : State) : flagRxne s.violate = flagRxne s := rfl
@[simp] theorem bufferOccupied_violate (s : State) : bufferOccupied s.violate = bufferOccupied s := rfl
@[simp] theorem field_violate (s : State) (p : Nat) : field s.violate p = field s p := rfl

@[simp] theorem clkGpio_afterDraw (s : State) : clkGpio s.afterDraw = clkGpio s := rfl
@[simp] theorem clkUart_afterDraw (s : State) : clkUart s.afterDraw = clkUart s := rfl
@[simp] theorem uartOn_afterDraw (s : State) : uartOn s.afterDraw = uartOn s := rfl
@[simp] theorem txOn_afterDraw (s : State) : txOn s.afterDraw = txOn s := rfl
@[simp] theorem rxOn_afterDraw (s : State) : rxOn s.afterDraw = rxOn s := rfl
@[simp] theorem txRouted_afterDraw (s : State) : txRouted s.afterDraw = txRouted s := rfl
@[simp] theorem rxPinOk_afterDraw (s : State) : rxPinOk s.afterDraw = rxPinOk s := rfl
@[simp] theorem configured_afterDraw (s : State) : configured s.afterDraw = configured s := rfl
@[simp] theorem flagTxe_afterDraw (s : State) : flagTxe s.afterDraw = flagTxe s := rfl
@[simp] theorem flagRxne_afterDraw (s : State) : flagRxne s.afterDraw = flagRxne s := rfl
@[simp] theorem bufferOccupied_afterDraw (s : State) : bufferOccupied s.afterDraw = bufferOccupied s := rfl
@[simp] theorem field_afterDraw (s : State) (p : Nat) : field s.afterDraw p = field s p := rfl

@[simp] theorem clkGpio_scheduled (s : State) : clkGpio s.scheduled = clkGpio s := rfl
@[simp] theorem clkUart_scheduled (s : State) : clkUart s.scheduled = clkUart s := rfl
@[simp] theorem uartOn_scheduled (s : State) : uartOn s.scheduled = uartOn s := rfl
@[simp] theorem txOn_scheduled (s : State) : txOn s.scheduled = txOn s := rfl
@[simp] theorem rxOn_scheduled (s : State) : rxOn s.scheduled = rxOn s := rfl
@[simp] theorem txRouted_scheduled (s : State) : txRouted s.scheduled = txRouted s := rfl
@[simp] theorem rxPinOk_scheduled (s : State) : rxPinOk s.scheduled = rxPinOk s := rfl
@[simp] theorem configured_scheduled (s : State) : configured s.scheduled = configured s := rfl
@[simp] theorem flagTxe_scheduled (s : State) : flagTxe s.scheduled = flagTxe s := rfl
@[simp] theorem flagRxne_scheduled (s : State) : flagRxne s.scheduled = flagRxne s := rfl
@[simp] theorem bufferOccupied_scheduled (s : State) : bufferOccupied s.scheduled = bufferOccupied s := rfl
@[simp] theorem field_scheduled (s : State) (p : Nat) : field s.scheduled p = field s p := rfl

@[simp] theorem clkGpio_runAs (s : State) (k : Nat) : clkGpio (s.runAs k) = clkGpio s := rfl
@[simp] theorem clkUart_runAs (s : State) (k : Nat) : clkUart (s.runAs k) = clkUart s := rfl
@[simp] theorem uartOn_runAs (s : State) (k : Nat) : uartOn (s.runAs k) = uartOn s := rfl
@[simp] theorem txOn_runAs (s : State) (k : Nat) : txOn (s.runAs k) = txOn s := rfl
@[simp] theorem rxOn_runAs (s : State) (k : Nat) : rxOn (s.runAs k) = rxOn s := rfl
@[simp] theorem txRouted_runAs (s : State) (k : Nat) : txRouted (s.runAs k) = txRouted s := rfl
@[simp] theorem rxPinOk_runAs (s : State) (k : Nat) : rxPinOk (s.runAs k) = rxPinOk s := rfl
@[simp] theorem configured_runAs (s : State) (k : Nat) : configured (s.runAs k) = configured s := rfl
@[simp] theorem flagTxe_runAs (s : State) (k : Nat) : flagTxe (s.runAs k) = flagTxe s := rfl
@[simp] theorem flagRxne_runAs (s : State) (k : Nat) : flagRxne (s.runAs k) = flagRxne s := rfl
@[simp] theorem bufferOccupied_runAs (s : State) (k : Nat) : bufferOccupied (s.runAs k) = bufferOccupied s := rfl
@[simp] theorem field_runAs (s : State) (k p : Nat) : field (s.runAs k) p = field s p := rfl

end Sys2Proof.Machine
end

