-- ==== Sys2Proof/Laws/Ops.lean ====
section
/-! SUPPORT. What each shared operation can do, said once. -/

namespace Sys2Proof.Machine

theorem rxOn_clkUart {s : State} (h : rxOn s = true) : clkUart s = true := by
  simp only [rxOn, uartOn, Bool.and_eq_true] at h
  exact h.2.2

theorem txOn_clkUart {s : State} (h : txOn s = true) : clkUart s = true := by
  simp only [txOn, uartOn, Bool.and_eq_true] at h
  exact h.2.2

theorem configured_txOn {s : State} (h : configured s = true) : txOn s = true := by
  simp_all [configured, txOn, uartOn]

theorem configured_rxOn {s : State} (h : configured s = true) : rxOn s = true := by
  simp_all [configured, rxOn, uartOn]

/-- Everything a read transaction can do to the state (R120 to R136). -/
inductive ReadStep (s : State) : Reg → Word → State → Prop where
  /-- The register is gated: any value, a violation. -/
  | gated (x : Reg) (h : clocked s x = false) : ReadStep s x s.anyWord s.afterDraw.violate
  /-- A register every bit of which is storage. -/
  | plain (x : Reg) (v : Word) (h : clocked s x = true)
      (hv : (x = .modeLo ∧ v = s.modeLo) ∨ (x = .modeHi ∧ v = s.modeHi) ∨ (x = .clken ∧ v = s.clken)) : ReadStep s x v s
  /-- A register with bits that read as any value. -/
  | merged (x : Reg) (v : Word) (h : clocked s x = true) (hx : x = .out ∨ x = .stat ∨ x = .baud ∨ x = .ctrl) :
      ReadStep s x v s.afterDraw
  /-- A byte is taken out of the receive buffer. -/
  | taken (b : Byte) (h : rxOn s = true) (hb : s.rxbuf = some b) :
      ReadStep s .data (dataWord b s.anyWord) { s.afterDraw with rxbuf := none }
  /-- The receiver is off: the receive buffer is unspecified, a violation. -/
  | off (hc : clkUart s = true) (h : rxOn s = false) : ReadStep s .data s.anyWord (readDataOff s).2

theorem busRead_cases {x : Reg} {s t : State} {v : Word} (h : busRead x s = .ok (v, t)) : ReadStep s x v t := by
  cases x <;> simp only [busRead, Except.ok.injEq] at h
  case modeLo =>
    unfold readModeLo at h; split at h
    · cases h; exact .plain _ _ ‹_› (.inl ⟨rfl, rfl⟩)
    · cases h; exact .gated _ (by simp_all [clocked])
  case modeHi =>
    unfold readModeHi at h; split at h
    · cases h; exact .plain _ _ ‹_› (.inr (.inl ⟨rfl, rfl⟩))
    · cases h; exact .gated _ (by simp_all [clocked])
  case out =>
    unfold readOut at h; split at h
    · cases h; exact .merged _ _ ‹_› (.inl rfl)
    · cases h; exact .gated _ (by simp_all [clocked])
  case stat =>
    unfold readStat at h; split at h
    · cases h; exact .merged _ _ ‹_› (.inr (.inl rfl))
    · cases h; exact .gated _ (by simp_all [clocked])
  case data =>
    unfold readData at h; split at h
    · split at h
      · cases h; exact .taken _ ‹_› ‹_›
      · cases h
    · split at h
      · cases h; exact .off ‹_› (by simp_all)
      · cases h; exact .gated _ (by simp_all [clocked])
  case baud =>
    unfold readBaud at h; split at h
    · cases h; exact .merged _ _ ‹_› (.inr (.inr (.inl rfl)))
    · cases h; exact .gated _ (by simp_all [clocked])
  case ctrl =>
    unfold readCtrl at h; split at h
    · cases h; exact .merged _ _ ‹_› (.inr (.inr (.inr rfl)))
    · cases h; exact .gated _ (by simp_all [clocked])
  case clken =>
    cases h; exact .plain _ _ rfl (.inr (.inr ⟨rfl, rfl⟩))

/-- Everything a write transaction can do to the state (R121 to R136). -/
inductive WriteStep (s : State) (v : Word) : Reg → State → Prop where
  /-- The register is gated: nothing changes but the violation mark. -/
  | gated (x : Reg) (h : clocked s x = false) : WriteStep s v x s.violate
  | modeLo (h : clkGpio s = true) : WriteStep s v .modeLo { s with modeLo := v }
  | modeHi (h : clkGpio s = true) : WriteStep s v .modeHi { s with modeHi := v }
  | out (h : clkGpio s = true) : WriteStep s v .out { s with out := v.extractLsb' 0 16 }
  /-- A byte is put into the transmit buffer. -/
  | filled (hv : dataValueOk v = true) (h : txOn s = true) (hb : s.txbuf = none) :
      WriteStep s v .data { s with txbuf := some (wordByte v) }
  /-- The transmitter is off: the transmit buffer is unspecified, a violation. -/
  | off (hv : dataValueOk v = true) (hc : clkUart s = true) (h : txOn s = false) : WriteStep s v .data (writeDataOff s)
  | baud (hv : baudValueOk s.cfg v = true) (h : clkUart s = true) (hb : bufferOccupied s = false) :
      WriteStep s v .baud { s with baud := v, baudValid := true }
  | ctrl (hv : ctrlValueOk s.cfg v = true) (h : clkUart s = true)
      (hb : (clearsEnable s.ctrl (ctrlOf s.cfg v) && bufferOccupied s) = false) :
      WriteStep s v .ctrl { s with ctrl := ctrlOf s.cfg v }
  | clken (h : clearsClock s v = false) :
      WriteStep s v .clken { s with
        clken := v
        settlingGpio := s.settlingGpio || startsSettling s s.cfg.clkBitGpio v
        settlingUart := s.settlingUart || startsSettling s s.cfg.clkBitUart v }

theorem busWrite_cases {x : Reg} {s t : State} {v : Word} (h : busWrite x v s = .ok t) : WriteStep s v x t := by
  cases x <;> simp only [busWrite, Except.ok.injEq, reduceCtorEq] at h
  case modeLo =>
    unfold writeModeLo at h; split at h
    · cases h; exact .modeLo ‹_›
    · cases h; exact .gated _ (by simp_all [clocked])
  case modeHi =>
    unfold writeModeHi at h; split at h
    · cases h; exact .modeHi ‹_›
    · cases h; exact .gated _ (by simp_all [clocked])
  case out =>
    unfold writeOut at h; split at h
    · cases h; exact .out ‹_›
    · cases h; exact .gated _ (by simp_all [clocked])
  case data =>
    unfold writeData at h
    split at h
    · cases h
    · have hv : dataValueOk v = true := by simp_all
      split at h
      · split at h
        · cases h; exact .filled hv ‹_› ‹_›
        · cases h
      · cases h; split
        · exact .off hv ‹_› (by simp_all)
        · exact .gated _ (by simp_all [clocked])
  case baud =>
    unfold writeBaud at h
    split at h
    · cases h
    · split at h
      · cases h; exact .gated _ (by simp_all [clocked])
      · split at h
        · cases h
        · cases h; exact .baud (by simp_all) (by simp_all) (by simp_all)
  case ctrl =>
    unfold writeCtrl at h
    split at h
    · cases h
    · split at h
      · cases h; exact .gated _ (by simp_all [clocked])
      · split at h
        · cases h
        · rename_i h1 h2 h3
          cases h; exact .ctrl (by simpa using h1) (by simpa using h2) (by simpa only [Bool.not_eq_true] using h3)
  case clken =>
    unfold writeClken at h
    split at h
    · cases h
    · cases h; exact .clken (by simp_all)

end Sys2Proof.Machine
end

