-- ==== Sys2Proof/Laws/Exec.lean ====
section
/-! SUPPORT. What one step can do, said once: an instruction changes the block by at most one bus transaction or
violation and then the record of the running master; every other step is one of the hardware steps. -/

namespace Sys2Proof.Machine

/-- What one step of an instruction can do to the state, the record of the running master aside. -/
inductive BlockStep (s : State) : State → Prop where
  /-- Nothing. -/
  | same : BlockStep s s
  /-- A violation at a call. -/
  | violated : BlockStep s s.violate
  /-- One read transaction. -/
  | read {x : Reg} {v : Word} {t : State} (h : ReadStep s x v t) : BlockStep s t
  /-- One write transaction. -/
  | write {x : Reg} {v : Word} {t : State} (h : WriteStep s v x t) : BlockStep s t

theorem readStat_step (s : State) : ReadStep s .stat (readStat s).1 (readStat s).2 :=
  busRead_cases (x := .stat) rfl

theorem runAct_cases {len : Nat} {a : Act} {s t : State} (h : runAct len a s = .next t) :
    ∃ u m, BlockStep s u ∧ t = u.setMe m := by
  cases a <;> simp only [runAct] at h
  case call =>
    cases h
    split
    · exact ⟨s, _, .same, State.setMe_setMe _ _ _⟩
    · exact ⟨s.violate, _, .violated, State.setMe_setMe _ _ _⟩
  case rd =>
    split at h
    · rename_i r hr
      cases h
      exact ⟨r.2, _, .read (busRead_cases hr), State.setMe_setMe _ _ _⟩
    · cases h
  case wr =>
    split at h
    · rename_i u hu
      cases h
      exact ⟨u, _, .write (busWrite_cases hu), rfl⟩
    · cases h
  case poll =>
    cases h
    exact ⟨(readStat s).2, _, .read (readStat_step s), State.setMe_setMe _ _ _⟩
  case takeByte =>
    split at h
    · rename_i r hr
      cases h
      exact ⟨r.2, _, .read (busRead_cases (x := .data) hr), rfl⟩
    · cases h
  case own =>
    cases h
    exact ⟨s, _, .same, State.setMe_setMe _ _ _⟩

theorem runSeq_cases {acts : List Act} {s t : State} (h : runSeq acts s = .next t) :
    ∃ u m, BlockStep s u ∧ t = u.setMe m := by
  unfold runSeq at h
  split at h
  · exact runAct_cases h
  · cases h; exact ⟨s, _, .same, rfl⟩

theorem ifWellFormed_next {i : Instr} {r : Result} {t : State} (h : ifWellFormed i r = .next t) : r = .next t := by
  unfold ifWellFormed at h
  split at h
  · exact h
  · cases h

theorem returnRead_cases {x : Reg} {r : Word × State} {s t : State} (hr : busRead x s = .ok r)
    (h : (.next (returnRead r) : Result) = .next t) : ∃ u m, BlockStep s u ∧ t = u.setMe m := by
  cases h; exact ⟨r.2, _, .read (busRead_cases hr), rfl⟩

theorem finishOrRefuse_cases {x : Reg} {v : Word} {s t : State} (h : finishOrRefuse (busWrite x v s) = .next t) :
    ∃ u m, BlockStep s u ∧ t = u.setMe m := by
  cases hw : busWrite x v s with
  | ok u => rw [hw] at h; cases h; exact ⟨u, _, .write (busWrite_cases hw), rfl⟩
  | error e => rw [hw] at h; cases h

/-- An instruction changes the block by at most one bus transaction or violation, and the running master's record. -/
theorem exec_cases {i : Instr} {s t : State} (h : exec i s = .next t) : ∃ u m, BlockStep s u ∧ t = u.setMe m := by
  cases i with
  | rdModeLo => exact returnRead_cases (x := .modeLo) rfl h
  | wrModeLo v => exact finishOrRefuse_cases (x := .modeLo) (v := v) h
  | rdModeHi => exact returnRead_cases (x := .modeHi) rfl h
  | wrModeHi v => exact finishOrRefuse_cases (x := .modeHi) (v := v) h
  | rdOut => exact returnRead_cases (x := .out) rfl h
  | wrOut v => exact finishOrRefuse_cases (x := .out) (v := v) h
  | rdStat => exact returnRead_cases (x := .stat) rfl h
  | wrStat v => cases h
  | rdData =>
    simp only [exec, execRdData, returnReadOrRefuse] at h
    split at h
    · exact returnRead_cases (x := .data) ‹_› h
    · cases h
  | wrData v => exact finishOrRefuse_cases (x := .data) (v := v) h
  | rdBaud => exact returnRead_cases (x := .baud) rfl h
  | wrBaud v => exact finishOrRefuse_cases (x := .baud) (v := v) h
  | rdCtrl => exact returnRead_cases (x := .ctrl) rfl h
  | wrCtrl v => exact finishOrRefuse_cases (x := .ctrl) (v := v) h
  | rdClken => exact returnRead_cases (x := .clken) rfl h
  | wrClken v => exact finishOrRefuse_cases (x := .clken) (v := v) h
  | enableClock which => exact runSeq_cases h
  | setPinMode p m => exact runSeq_cases (ifWellFormed_next h)
  | toggle p => exact runSeq_cases (ifWellFormed_next h)
  | write p level => exact runSeq_cases (ifWellFormed_next h)
  | uartInit baud clk => exact runSeq_cases (ifWellFormed_next h)
  | sendByte b => exact runSeq_cases h
  | recvByte => exact runSeq_cases h
  | sendString str => exact runSeq_cases (ifWellFormed_next h)
  | sendUnsignedDecimal n => exact runSeq_cases h
  | busyWait iterations => exact runSeq_cases h

/-- No step faults (60_exceptions.md R220). -/
theorem exec_no_fault (i : Instr) (s : State) (r : Fault) : exec i s ≠ .fault r := nomatch r

/-- Everything a step can do: the scheduled agent's step, on the state with that agent taken off the schedule. -/
inductive AgentStep (s : State) : Agent → State → Prop where
  /-- The master stands before an instruction. -/
  | instr {k : Nat} {i : Instr} {u : State} {m : Master} (hf : fetch (s.runAs k) = .run i)
      (h : exec i (s.runAs k) = .next (u.setMe m)) (hb : BlockStep (s.runAs k) u) :
      AgentStep s (.master k) (u.setMe m)
  /-- The master has no item left, or only a conditional item whose condition is false. -/
  | alone {k : Nat} (m : Master) : AgentStep s (.master k) ((s.runAs k).setMe m)
  | txDrain : AgentStep s .txDrain (txDrain s)
  | rxArrive : AgentStep s .rxArrive (rxArrive s)
  | rxOverrun (b : Bool) : AgentStep s (.rxOverrun b) (rxOverrun b s)
  | rxDrop (a b : Bool) : AgentStep s (.rxDrop a b) (rxDrop a b s)
  | settleGpio : AgentStep s .settleGpio (settleGpio s)
  | settleUart : AgentStep s .settleUart (settleUart s)

theorem agentStep_cases {a : Agent} {s t : State} (h : agentStep a s = .next t) : AgentStep s a t := by
  cases a <;> simp only [agentStep] at h
  case master k =>
    unfold masterStep at h
    split at h
    · cases h
      have h2 := AgentStep.alone (s := s) (k := k) ((s.runAs k).me)
      rwa [State.setMe_me] at h2
    · rename_i i hi
      obtain ⟨u, m, hb, rfl⟩ := exec_cases h
      exact .instr hi h hb
    · cases h; exact .alone _
    · cases h
  all_goals (cases h; constructor)

theorem step_cases {s t : State} (h : step s = .next t) : AgentStep s.scheduled (nextAgent s) t := agentStep_cases h

end Sys2Proof.Machine
end

