-- ==== Sys2Proof/Laws/PerInstr.lean ====
section
/-! SUPPORT. A law of the encoder for each instruction: the word of an instruction carries the operation code of its
row of the opcode map (30_encoding.md R93, R104). -/

namespace Sys2Proof.Laws.WordOpcode

/-- The four bits `w`, `reg` of an instruction's row (R104); a driver operation has none. -/
def opcode : Instr → Option (BitVec 4)
  | .rdModeLo => some 0x0
  | .wrModeLo _ => some 0x8
  | .rdModeHi => some 0x1
  | .wrModeHi _ => some 0x9
  | .rdOut => some 0x2
  | .wrOut _ => some 0xA
  | .rdStat => some 0x3
  | .wrStat _ => some 0xB
  | .rdData => some 0x4
  | .wrData _ => some 0xC
  | .rdBaud => some 0x5
  | .wrBaud _ => some 0xD
  | .rdCtrl => some 0x6
  | .wrCtrl _ => some 0xE
  | .rdClken => some 0x7
  | .wrClken _ => some 0xF
  | .enableClock _ => none
  | .setPinMode _ _ => none
  | .toggle _ => none
  | .write _ _ => none
  | .uartInit _ _ => none
  | .sendByte _ => none
  | .recvByte => none
  | .sendString _ => none
  | .sendUnsignedDecimal _ => none
  | .busyWait _ => none

/-- Bits 35:32 of the word are the operation code, and there is a word exactly where there is a code. -/
def Statement (i : Instr) : Prop := (encode i).map (fun w => w.extractLsb' 32 4) = opcode i

theorem txnWord_opcode (w : Bool) (x : Reg) (v : Word) :
    (txnWord w x v).extractLsb' 32 4 = BitVec.ofBool w ++ regId x := by
  unfold txnWord
  exact BitVec.extractLsb'_append_eq_left

theorem rdModeLo : Statement (.rdModeLo) := congrArg some (txnWord_opcode false .modeLo 0)
theorem wrModeLo (v : Word) : Statement (.wrModeLo v) := congrArg some (txnWord_opcode true .modeLo v)
theorem rdModeHi : Statement (.rdModeHi) := congrArg some (txnWord_opcode false .modeHi 0)
theorem wrModeHi (v : Word) : Statement (.wrModeHi v) := congrArg some (txnWord_opcode true .modeHi v)
theorem rdOut : Statement (.rdOut) := congrArg some (txnWord_opcode false .out 0)
theorem wrOut (v : Word) : Statement (.wrOut v) := congrArg some (txnWord_opcode true .out v)
theorem rdStat : Statement (.rdStat) := congrArg some (txnWord_opcode false .stat 0)
theorem wrStat (v : Word) : Statement (.wrStat v) := congrArg some (txnWord_opcode true .stat v)
theorem rdData : Statement (.rdData) := congrArg some (txnWord_opcode false .data 0)
theorem wrData (v : Word) : Statement (.wrData v) := congrArg some (txnWord_opcode true .data v)
theorem rdBaud : Statement (.rdBaud) := congrArg some (txnWord_opcode false .baud 0)
theorem wrBaud (v : Word) : Statement (.wrBaud v) := congrArg some (txnWord_opcode true .baud v)
theorem rdCtrl : Statement (.rdCtrl) := congrArg some (txnWord_opcode false .ctrl 0)
theorem wrCtrl (v : Word) : Statement (.wrCtrl v) := congrArg some (txnWord_opcode true .ctrl v)
theorem rdClken : Statement (.rdClken) := congrArg some (txnWord_opcode false .clken 0)
theorem wrClken (v : Word) : Statement (.wrClken v) := congrArg some (txnWord_opcode true .clken v)
theorem enableClock (which : Periph) : Statement (.enableClock which) := rfl
theorem setPinMode (p : Nat) (m : PinMode) : Statement (.setPinMode p m) := rfl
theorem toggle (p : Nat) : Statement (.toggle p) := rfl
theorem write (p : Nat) (l : Level) : Statement (.write p l) := rfl
theorem uartInit (baud clk : Word) : Statement (.uartInit baud clk) := rfl
theorem sendByte (b : Byte) : Statement (.sendByte b) := rfl
theorem recvByte : Statement (.recvByte) := rfl
theorem sendString (s : List Byte) : Statement (.sendString s) := rfl
theorem sendUnsignedDecimal (n : Word) : Statement (.sendUnsignedDecimal n) := rfl
theorem busyWait (n : Word) : Statement (.busyWait n) := rfl

end Sys2Proof.Laws.WordOpcode
end

