-- ==== Sys2Proof/Laws/Run.lean ====
section
/-! SUPPORT. What a run supplies before a step changes nothing of the block, and how an infinite run is built. -/

namespace Sys2Proof.Machine

@[simp] theorem State.supply_cfg (s : State) (m : Moment) : (s.supply m).cfg = s.cfg := rfl
@[simp] theorem State.supply_modeLo (s : State) (m : Moment) : (s.supply m).modeLo = s.modeLo := rfl
@[simp] theorem State.supply_modeHi (s : State) (m : Moment) : (s.supply m).modeHi = s.modeHi := rfl
@[simp] theorem State.supply_out (s : State) (m : Moment) : (s.supply m).out = s.out := rfl
@[simp] theorem State.supply_baud (s : State) (m : Moment) : (s.supply m).baud = s.baud := rfl
@[simp] theorem State.supply_ctrl (s : State) (m : Moment) : (s.supply m).ctrl = s.ctrl := rfl
@[simp] theorem State.supply_clken (s : State) (m : Moment) : (s.supply m).clken = s.clken := rfl
@[simp] theorem State.supply_txbuf (s : State) (m : Moment) : (s.supply m).txbuf = s.txbuf := rfl
@[simp] theorem State.supply_rxbuf (s : State) (m : Moment) : (s.supply m).rxbuf = s.rxbuf := rfl
@[simp] theorem State.supply_settlingGpio (s : State) (m : Moment) : (s.supply m).settlingGpio = s.settlingGpio := rfl
@[simp] theorem State.supply_settlingUart (s : State) (m : Moment) : (s.supply m).settlingUart = s.settlingUart := rfl
@[simp] theorem State.supply_baudValid (s : State) (m : Moment) : (s.supply m).baudValid = s.baudValid := rfl
@[simp] theorem State.supply_viol (s : State) (m : Moment) : (s.supply m).viol = s.viol := rfl
@[simp] theorem State.supply_txLine (s : State) (m : Moment) : (s.supply m).txLine = s.txLine := rfl
@[simp] theorem State.supply_rxIn (s : State) (m : Moment) : (s.supply m).rxIn = s.rxIn := rfl
@[simp] theorem State.supply_rxPos (s : State) (m : Moment) : (s.supply m).rxPos = s.rxPos := rfl
@[simp] theorem State.supply_rxLost (s : State) (m : Moment) : (s.supply m).rxLost = s.rxLost := rfl
@[simp] theorem State.supply_cur (s : State) (m : Moment) : (s.supply m).cur = s.cur := rfl
@[simp] theorem State.supply_sched (s : State) (m : Moment) : (s.supply m).sched = [m.agent] := rfl
@[simp] theorem State.supply_ticks (s : State) (m : Moment) : (s.supply m).ticks = s.ticks := rfl
@[simp] theorem State.supply_draws (s : State) (m : Moment) : (s.supply m).draws = s.draws ++ m.draws := rfl
@[simp] theorem State.supply_drawn (s : State) (m : Moment) : (s.supply m).drawn = s.drawn := rfl
@[simp] theorem State.supply_masters_length (s : State) (m : Moment) :
    (s.supply m).masters.length = s.masters.length := by simp [State.supply]

@[simp] theorem clkGpio_supply (s : State) (m : Moment) : clkGpio (s.supply m) = clkGpio s := rfl
@[simp] theorem clkUart_supply (s : State) (m : Moment) : clkUart (s.supply m) = clkUart s := rfl
@[simp] theorem txOn_supply (s : State) (m : Moment) : txOn (s.supply m) = txOn s := rfl
@[simp] theorem rxOn_supply (s : State) (m : Moment) : rxOn (s.supply m) = rxOn s := rfl
@[simp] theorem rxPinOk_supply (s : State) (m : Moment) : rxPinOk (s.supply m) = rxPinOk s := rfl
@[simp] theorem configured_supply (s : State) (m : Moment) : configured (s.supply m) = configured s := rfl

/-- The agent that a run supplies is the one that steps. -/
@[simp] theorem nextAgent_supply (s : State) (m : Moment) : nextAgent (s.supply m) = m.agent := rfl

/-- A master without further items is as it was. -/
@[simp] theorem Master.extend_nil (m : Master) : m.extend [] = m := by simp [Master.extend]

/-- A moment that supplies an agent alone. -/
theorem State.supply_agent (s : State) (a : Agent) : s.supply { agent := a } = { s with sched := [a] } := by
  have h : s.masters.mapIdx (fun _ m => m) = s.masters := List.ext_getElem (by simp) (by simp)
  simp [State.supply, h]

/-- Everything a step of a run can do. -/
theorem run_step {e : Nat → Moment} {r : Nat → State} (h : IsRun e r) (n : Nat) :
    AgentStep ((r n).supply (e n)).scheduled (e n).agent (r (n + 1)) := step_cases (h n)

/-- A property that every step answers to, and keeps, is that of every state of some infinite run. -/
theorem exists_run {P : State → Prop} {e : Nat → Moment} {s : State} (h0 : P s)
    (h : ∀ n t, P t → ∃ u, step (t.supply (e n)) = .next u ∧ P u) :
    ∃ r, r 0 = s ∧ IsRun e r ∧ ∀ n, P (r n) := by
  choose next hs hp using fun n (t : { t // P t }) => h n t.1 t.2
  let r : Nat → { t // P t } := fun n => Nat.rec ⟨s, h0⟩ (fun n t => ⟨next n t, hp n t⟩) n
  exact ⟨fun n => (r n).1, rfl, fun n => hs n (r n), fun n => (r n).2⟩

end Sys2Proof.Machine
end

