-- ==== Sys2Proof/Tests/Slice0.lean ====
section
/-! SUPPORT. Tests: ill-formed terms, the words of 30_encoding.md R104, and single steps with the expected values of
95_test_vectors.md (a test with a `T`, `S` or `H` number is named by its vector there) or of the worked example of the
rule it names. After them, for each statement of Obligations.lean with hypotheses, a witness that meets them. -/

namespace Sys2Proof.Tests

open Sys2Proof.Machine

/-- The configuration `REF` of 95_test_vectors.md section 1, not normative. -/
def ref : Cfg where
  addrModeLo := 0x40010800
  addrModeHi := 0x40010804
  addrOut := 0x4001080C
  addrStat := 0x40013800
  addrData := 0x40013804
  addrBaud := 0x40013808
  addrCtrl := 0x4001380C
  addrClken := 0x40021018
  clkBitGpio := 2
  clkBitUart := 14
  statTxe := 7
  statRxne := 5
  ctrlRe := 2
  ctrlTe := 3
  ctrlUe := 13
  encInFloat := 0x4
  encOutPp := 0x2
  encAfPp := 0xB
  uartTxPin := 9
  uartRxPin := 10
  baudWidth := 16
  settleMode := .none
  pinmodeSplit := false
  ntasks := 1
  resetModeLo := 0x44444444
  resetModeHi := 0x44444444
  resetClken := 0
  resetOut := 0

/-- The reset state with no line input, the given `CLKEN`, and draws that are no friendly value. -/
def start (c : Cfg) (clken : Word) : State :=
  { State.resetWith c with
    rxIn := []
    clken := clken
    draws := [0xDEADBEEF, 0x5A5A5A5A, 0xFFFFFFFF, 0, 0x12345678, 0xDEADBEEF, 0x5A5A5A5A, 0xFFFFFFFF] }

/-- Both clocks on. -/
def on : State := start ref 0x00004004

/-- The state `uart_init(115200, 8000000)` ends in. -/
def conf : State :=
  { on with modeHi := 0x444444B4, baud := 69, baudValid := true, ctrl := { re := true, te := true, ue := true } }

/-- The running master is inside an operation, at a label, with the given temporaries. -/
def within (s : State) (label : Nat) (tmp : Temps) : State :=
  { s with masters := [{ Master.idle with label := label, tmp := tmp }] }

/-- Temporaries with `t` read. -/
def read (t : Word) : Temps := { Temps.clear with t := t }

/-- A field of the state a step answers. -/
def after {α : Type} (r : Result) (f : State → α) : Option α :=
  match r with
  | .next s => some (f s)
  | .fault _ => none
  | .refused _ => none

/-- The reason a step is refused for. -/
def refusal (r : Result) : Option Refusal :=
  match r with
  | .next _ => none
  | .fault _ => none
  | .refused e => some e

/-! Well-formedness: each check refuses an ill-formed term (R94, R186). -/

theorem test_wf_set_pin_mode : (Instr.setPinMode 16 .outPp).wellFormed = false := by decide
theorem test_wf_toggle : (Instr.toggle 16).wellFormed = false := by decide
theorem test_wf_write : (Instr.write 16 .high).wellFormed = false := by decide
theorem test_wf_uart_init : (Instr.uartInit 0 8000000).wellFormed = false := by decide
theorem test_wf_send_string : (Instr.sendString [0x61, 0x00]).wellFormed = false := by decide

/-! Decoding: words written out from R104. -/

theorem test_decode_rd_mode_lo : decode 0x000000000#36 = .rdModeLo := by decide
theorem test_decode_rd_ignores_data : decode 0x0DEADBEEF#36 = .rdModeLo := by decide
theorem test_decode_wr_mode_lo : decode 0x844444424#36 = .wrModeLo 0x44444424 := by decide
theorem test_decode_rd_mode_hi : decode 0x100000000#36 = .rdModeHi := by decide
theorem test_decode_wr_mode_hi : decode 0x944244444#36 = .wrModeHi 0x44244444 := by decide
theorem test_decode_rd_out : decode 0x200000000#36 = .rdOut := by decide
theorem test_decode_wr_out : decode 0xA00002000#36 = .wrOut 0x00002000 := by decide
theorem test_decode_rd_stat : decode 0x300000000#36 = .rdStat := by decide
theorem test_decode_wr_stat : decode 0xB00000000#36 = .wrStat 0 := by decide
theorem test_decode_rd_data : decode 0x400000000#36 = .rdData := by decide
theorem test_decode_wr_data : decode 0xC00000061#36 = .wrData 0x61 := by decide
theorem test_decode_rd_baud : decode 0x500000000#36 = .rdBaud := by decide
theorem test_decode_wr_baud : decode 0xD00000045#36 = .wrBaud 69 := by decide
theorem test_decode_rd_ctrl : decode 0x600000000#36 = .rdCtrl := by decide
theorem test_decode_wr_ctrl : decode 0xE0000200C#36 = .wrCtrl 0x200C := by decide
theorem test_decode_rd_clken : decode 0x700000000#36 = .rdClken := by decide
theorem test_decode_wr_clken : decode 0xFFFFFFFFF#36 = .wrClken 0xFFFFFFFF := by decide
theorem test_decode_too_wide : (decodeNat 0x1000000000).toOption = none := by decide
theorem test_encode_wr_clken : encode (.wrClken 0x00004001) = some 0xF00004001#36 := by decide

/-! Bus transactions (95_test_vectors.md section 3.2). -/

theorem test_T4_read_mode_lo : after (exec .rdModeLo on) (fun s => s.me.ret) = some 0x44444444 := by decide
theorem test_T2_gated_read_any :
    after (exec .rdModeLo (start ref 0)) (fun s => (s.me.ret, s.viol)) = some (0xDEADBEEF, true) := by decide
theorem test_T3_write_mode_lo :
    after (exec (.wrModeLo 0x44444442) on) (fun s => (s.modeLo, pinOut s 0)) = some (0x44444442, .driven false) := by decide
theorem test_T1_gated_write_ignored :
    after (exec (.wrModeLo 0x44444442) (start ref 0)) (fun s => (s.modeLo, s.viol)) = some (0x44444444, true) := by decide
theorem test_R122_read_mode_hi : after (exec .rdModeHi conf) (fun s => s.me.ret) = some 0x444444B4 := by decide
theorem test_R123_write_mode_hi :
    after (exec (.wrModeHi 0x444444B4) on) (fun s => (s.modeHi, pinOut s 9)) =
      some (0x444444B4, .peripheral .uartTx) := by decide
theorem test_T5_write_out : after (exec (.wrOut 0xFFFF2000) on) (fun s => s.out) = some 0x2000 := by decide
theorem test_T6_read_out : after (exec .rdOut { on with out := 0x2000 }) (fun s => s.me.ret) = some 0xDEAD2000 := by decide
theorem test_T7_read_stat_off : after (exec .rdStat on) (fun s => s.me.ret) = some 0xDEADBEEF := by decide
theorem test_T9_read_stat :
    after (exec .rdStat { conf with txbuf := some 0x61, rxbuf := some 0x41 }) (fun s => s.me.ret &&& 0xA0) =
      some 0x20 := by decide
theorem test_T10_write_stat : refusal (exec (.wrStat 0) conf) = some .writeStat := by decide
theorem test_T11_write_data : after (exec (.wrData 0x61) conf) (fun s => (s.txbuf, s.rxbuf)) = some (some 0x61, none) := by decide
theorem test_T12_write_data_full :
    refusal (exec (.wrData 0x62) { conf with txbuf := some 0x61 }) = some .writeDataFull := by decide
theorem test_T16_read_data :
    after (exec .rdData { conf with rxbuf := some 0x68 }) (fun s => (s.me.ret, s.rxbuf)) =
      some (0xDEADBE68, none) := by decide
theorem test_T17_read_data_empty : refusal (exec .rdData conf) = some .readDataEmpty := by decide
theorem test_R130_read_baud : after (exec .rdBaud conf) (fun s => s.me.ret) = some 0xDEAD0045 := by decide
theorem test_T22_write_baud : after (exec (.wrBaud 0xFFFF) on) (fun s => (s.baud, s.baudValid)) = some (65535, true) := by decide
theorem test_T21_write_baud_wide : refusal (exec (.wrBaud 0x10000) on) = some .writeBaudRange := by decide
theorem test_R132_read_ctrl : after (exec .rdCtrl conf) (fun s => s.me.ret &&& 0x200C) = some 0x200C := by decide
theorem test_T25_write_ctrl : after (exec (.wrCtrl 0x2000) on) (fun s => s.ctrl) = some ⟨false, false, true⟩ := by decide
theorem test_T26_write_ctrl_reserved : refusal (exec (.wrCtrl 0x202C) on) = some .writeCtrlReserved := by decide
theorem test_T30_write_clken :
    after (exec (.wrClken 0x5) (start ref 1)) (fun s => (s.clken, clkGpio s)) = some (5, true) := by decide
theorem test_T31_write_clken_clears : refusal (exec (.wrClken 1) (start ref 5)) = some .writeClkenClears := by decide
theorem test_T33_read_clken : after (exec .rdClken on) (fun s => s.me.ret) = some 0x4004 := by decide

/-! Driver operations (sections 3.3 to 3.6), one step at the label given. -/

theorem test_enable_clock_reads : after (exec (.enableClock .uart) (start ref 1)) (fun s => s.me.tmp.t) = some 1 := by decide
theorem test_R165_enable_clock_writes :
    after (exec (.enableClock .uart) (within (start ref 1) 1 (read 1))) (fun s => s.clken) = some 0x4001 := by decide
theorem test_set_pin_mode_7_writes :
    after (exec (.setPinMode 7 .afPp) (within on 1 (read 0x12345678))) (fun s => s.modeLo) = some 0xB2345678 := by decide
theorem test_set_pin_mode_split_clears :
    after (exec (.setPinMode 13 .outPp) (within { on with cfg := { ref with pinmodeSplit := true } } 1 (read 0x44444444)))
      (fun s => s.modeHi) = some 0x44044444 := by decide
theorem test_toggle_writes :
    after (exec (.toggle 13) (within on 1 (read 0xDEADA5A5))) (fun s => s.out) = some 0x85A5 := by decide
theorem test_toggle_ill_formed : refusal (exec (.toggle 16) on) = some .illFormed := by decide
theorem test_write_low : after (exec (.write 13 .low) (within on 1 (read 0x2001))) (fun s => s.out) = some 0x0001 := by decide
theorem test_write_high : after (exec (.write 15 .high) (within on 1 (read 0))) (fun s => s.out) = some 0x8000 := by decide
theorem test_uart_init_baud :
    after (exec (.uartInit 115200 8000000) (within on 8 Temps.clear)) (fun s => (s.baud, s.baudValid)) =
      some (69, true) := by decide
theorem test_uart_init_ctrl :
    after (exec (.uartInit 115200 8000000) (within { conf with ctrl := ⟨false, false, false⟩ } 9 Temps.clear))
      (fun s => (s.ctrl, s.me.label, configured s)) = some (⟨true, true, true⟩, 0, true) := by decide
theorem test_S8_send_byte_unconfigured :
    after (exec (.sendByte 0x41) (start ref 0)) (fun s => (s.viol, s.me.label)) = some (true, 1) := by decide
theorem test_S4_send_byte_polls :
    after (exec (.sendByte 0x41) (within { conf with txbuf := some 0x40 } 1 Temps.clear))
      (fun s => (s.txbuf, s.me.label)) = some (some 0x40, 1) := by decide
theorem test_recv_byte_polls :
    after (exec .recvByte (within { conf with rxbuf := some 0x68 } 1 Temps.clear)) (fun s => s.me.label) = some 2 := by decide
theorem test_S5_recv_byte :
    after (exec .recvByte (within { conf with rxbuf := some 0x68 } 2 Temps.clear)) (fun s => (s.me.ret, s.rxbuf)) =
      some (0x68, none) := by decide
theorem test_send_string_line_feed :
    after (exec (.sendString [0x0A]) (within conf 2 { Temps.clear with left := [0x0A] }))
      (fun s => (s.me.label, s.me.tmp.c)) = some (3, 0x0A) := by decide
theorem test_send_string_end :
    after (exec (.sendString [0x61]) (within conf 2 { Temps.clear with i := 1 })) (fun s => s.me.label) = some 0 := by decide
theorem test_send_decimal_pass :
    after (exec (.sendUnsignedDecimal 429) (within conf 2 { Temps.clear with n := 429, i := 10 }))
      (fun s => (s.me.label, s.me.tmp.n, s.me.tmp.i, s.me.tmp.buf[9])) = some (2, 42, 9, 0x39) := by decide
theorem test_dec_max :
    dec 4294967295 = [0x34, 0x32, 0x39, 0x34, 0x39, 0x36, 0x37, 0x32, 0x39, 0x35] := by decide
theorem test_busy_wait_pass :
    after (exec (.busyWait 3) (within on 1 { Temps.clear with n := 2 })) (fun s => (s.me.label, s.me.tmp.n)) =
      some (1, 1) := by decide
theorem test_busy_wait_last :
    after (exec (.busyWait 3) (within on 1 { Temps.clear with n := 1 })) (fun s => s.me.label) = some 0 := by decide

/-! Hardware steps (section 3.7), and the step. -/

theorem test_H1_tx_drain :
    (txDrain { conf with txbuf := some 0x61 }).txLine = [(0x61, true)] := by decide
theorem test_H2_tx_drain_not_routed :
    (txDrain { conf with txbuf := some 0x61, modeHi := 0x44444424 }).txLine = [(0x61, false)] := by decide
theorem test_H4_rx_arrive : (rxArrive { conf with rxIn := [0x41, 0x42] }).rxbuf = some 0x41 := by decide
theorem test_H5_rx_overrun :
    (rxOverrun true { conf with rxIn := [0x41, 0x42], rxPos := 1, rxbuf := some 0x41 }).rxbuf = some 0x42 := by decide
theorem test_H6_rx_drop : (rxDrop true true { on with rxIn := [0x41] }).rxLost = 1 := by decide
theorem test_H7_settling :
    clkGpio (settleGpio { start { ref with settleMode := .nondet } 4 with settlingGpio := true }) = true := by decide
theorem test_step_runs_word :
    after (step (on.withFetchWord 40 0xA00002000)) (fun s => s.out) = some 0x2000 := by decide
theorem test_step_mem_write :
    after (step (on.load (.memWrite 0x4001080C 4 0x2000))) (fun s => s.out) = some 0x2000 := by decide

/-! Witnesses: states and operands that meet the hypotheses of each statement. -/

/-- An answer seen through a field is an answer. -/
theorem next_of_after {α : Type} {r : Result} {f : State → α} {v : α} (h : after r f = some v) :
    ∃ t, r = .next t ∧ f t = v := by
  cases r with
  | next t => exact ⟨t, rfl, Option.some.inj h⟩
  | fault e => cases h
  | refused e => cases h

/-- A master about to write `OUT` runs. -/
def running : State := conf.load (.op (.wrOut 0x2000))

/-- Two masters without a program. -/
def two : State := { on with masters := [Master.idle, Master.idle] }

/-- The transmit buffer is full. -/
def full : State := { conf with txbuf := some 0x61 }

/-- The receive buffer is full, and two more bytes may come. -/
def received : State := { conf with rxbuf := some 0x41, rxIn := [0x41, 0x42], rxPos := 1 }

/-- The receive pin is no input. -/
def wrongPin : State := { conf with modeHi := 0x444442B4, rxIn := [0x41] }

/-- A bank whose clock is off. -/
def gated : State := start ref 0

theorem witness_DecodeOfEncode : encode (.wrOut 0x2000) = some 0xA00002000#36 := by decide

theorem witness_DecodeByMaskAndMatch :
    0x0DEADBEEF#36 &&& 0xF00000000#36 = 0x000000000#36 ∧ 0x8FFFFFFFF#36 &&& 0xF00000000#36 = 0x800000000#36 ∧
    0x1DEADBEEF#36 &&& 0xF00000000#36 = 0x100000000#36 ∧ 0x9FFFFFFFF#36 &&& 0xF00000000#36 = 0x900000000#36 ∧
    0x2DEADBEEF#36 &&& 0xF00000000#36 = 0x200000000#36 ∧ 0xAFFFFFFFF#36 &&& 0xF00000000#36 = 0xA00000000#36 ∧
    0x3DEADBEEF#36 &&& 0xF00000000#36 = 0x300000000#36 ∧ 0xBFFFFFFFF#36 &&& 0xF00000000#36 = 0xB00000000#36 ∧
    0x4DEADBEEF#36 &&& 0xF00000000#36 = 0x400000000#36 ∧ 0xCFFFFFFFF#36 &&& 0xF00000000#36 = 0xC00000000#36 ∧
    0x5DEADBEEF#36 &&& 0xF00000000#36 = 0x500000000#36 ∧ 0xDFFFFFFFF#36 &&& 0xF00000000#36 = 0xD00000000#36 ∧
    0x6DEADBEEF#36 &&& 0xF00000000#36 = 0x600000000#36 ∧ 0xEFFFFFFFF#36 &&& 0xF00000000#36 = 0xE00000000#36 ∧
    0x7DEADBEEF#36 &&& 0xF00000000#36 = 0x700000000#36 ∧ 0xFFFFFFFFF#36 &&& 0xF00000000#36 = 0xF00000000#36 := by
  decide

theorem witness_StepRunsFetchedInstruction :
    nextAgent (on.withFetchWord 40 0xA00002000) = .master 0 ∧
    fetch ((on.withFetchWord 40 0xA00002000).scheduled.runAs 0) = .run (.wrOut 0x2000) ∧
    ((on.withFetchWord 40 0xA00002000).runAs 0).me.slot = some (.word 0xA00002000) := by decide

theorem witness_StepOfOtherAgents :
    nextAgent { on with sched := [.txDrain] } = .txDrain ∧ nextAgent { on with sched := [.rxArrive] } = .rxArrive ∧
    nextAgent { on with sched := [.rxOverrun true] } = .rxOverrun true ∧
    nextAgent { on with sched := [.rxDrop true false] } = .rxDrop true false ∧
    nextAgent { on with sched := [.settleGpio] } = .settleGpio ∧
    nextAgent { on with sched := [.settleUart] } = .settleUart ∧
    nextAgent { on with sched := [.master 0] } = .master 0 ∧
    fetch (({ on with sched := [.master 0] } : State).scheduled.runAs 0) = .idle ∧
    fetch ((on.load (.ifResult 0x0D .rdOut)).scheduled.runAs 0) = .skip ∧
    fetch ((on.load (.memRead 0x40010808 4)).scheduled.runAs 0) = .refuse .accessNoRegister := by decide

theorem ref_valid : ref.Valid := by decide

theorem witness_BusAccessNamesRegister :
    ref.Valid ∧ (2 : Nat) ≠ 4 ∧ (0x40010801#32).toNat % 4 ≠ 0 ∧ (0x40010808#32).toNat % 4 = 0 ∧
    ∀ x, addrOf ref x ≠ 0x40010808#32 := by
  refine ⟨ref_valid, by decide, by decide, by decide, fun x => ?_⟩
  cases x <;> decide

theorem witness_FinishMovesMasterOn : two.Runs ∧ 1 ≠ two.cur := by decide

theorem witness_ResetValues : ref.Valid := ref_valid

theorem running_inv : running.Inv :=
  ⟨ref_valid, by decide, by decide, by decide, by decide, by decide, by decide⟩

theorem witness_StepKeepsInvariant : running.Inv ∧ ∃ t, step running = .next t ∧ t.out = 0x2000 :=
  ⟨running_inv, next_of_after (by decide)⟩

theorem witness_StepKeepsViolationMark :
    ∃ t, step { running with viol := true } = .next t ∧ t.out = 0x2000 := next_of_after (by decide)

theorem witness_StepKeepsClocksOn :
    running.clken.getLsbD running.cfg.clkBitGpio = true ∧ running.clken.getLsbD running.cfg.clkBitUart = true ∧
    clkGpio running = true ∧ clkUart running = true ∧ ∃ t, step running = .next t ∧ t.out = 0x2000 :=
  ⟨by decide, by decide, by decide, by decide, next_of_after (by decide)⟩

theorem witness_StepKeepsByteStream :
    ∃ t, step (conf.load (.op (.wrData 0x61))) = .next t ∧ t.viol = false ∧ t.txbuf = some 0x61 := by
  obtain ⟨t, h, ht⟩ := next_of_after (f := fun t => (t.viol, t.txbuf)) (v := (false, some 0x61))
    (show after (step (conf.load (.op (.wrData 0x61)))) _ = _ by decide)
  exact ⟨t, h, congrArg Prod.fst ht, congrArg Prod.snd ht⟩

theorem witness_HardwareKeepsConfigurationRegisters :
    (∀ k, Agent.txDrain ≠ .master k) ∧ agentStep .txDrain full = .next (txDrain full) := ⟨nofun, rfl⟩

theorem witness_TransmitEngineStep :
    txOn full = true ∧ full.txbuf = some 0x61 ∧ txOn on = false ∧ conf.txbuf = none := by decide

theorem witness_ReceiveEngineSteps :
    (({ conf with rxIn := [0x41] } : State).rxIn[0]? = some 0x41 ∧ rxOn conf = true ∧ rxPinOk conf = true ∧
      conf.rxbuf = none) ∧
    (received.rxIn[received.rxPos]? = some 0x42 ∧ rxOn received = true ∧ rxPinOk received = true ∧
      received.rxbuf = some 0x41) ∧
    conf.rxIn.length ≤ conf.rxPos ∧ rxOn on = false ∧ rxPinOk wrongPin = false := by decide

theorem witness_DroppedByteSteps :
    (({ on with rxIn := [0x41] } : State).rxIn[on.rxPos]? = some 0x41 ∧ rxOn on = false) ∧
    (wrongPin.rxIn[wrongPin.rxPos]? = some 0x41 ∧ rxOn wrongPin = true ∧ rxPinOk wrongPin = false ∧
      wrongPin.rxbuf = none) ∧
    ({ wrongPin with rxbuf := some 0x40 } : State).rxbuf = some 0x40 ∧
    (received.rxIn[received.rxPos]? = some 0x42 ∧ rxOn received = true ∧ rxPinOk received = true) := by decide

theorem witness_ClockSettleSteps :
    (start { ref with settleMode := .nondet } 0).cfg.settleMode = .nondet ∧ on.cfg.settleMode = .none := by decide

theorem witness_GatedAccessIsViolation :
    clocked gated .modeLo = false ∧ clocked gated .data = false ∧ (255#32).toNat < 256 ∧
    clocked gated .baud = false ∧ (1 ≤ (65535#32).toNat ∧ (65535#32).toNat < 2 ^ gated.cfg.baudWidth) ∧
    clocked gated .ctrl = false ∧ 0x200C#32 &&& ~~~ctrlEn gated.cfg = 0 := by decide

theorem witness_ModeRegisterTransactions : clkGpio on = true := by decide

theorem witness_OutputRegisterTransactions : clkGpio conf = true := by decide

theorem witness_ReadStatusRegister :
    conf.cfg.Valid ∧ clkUart conf = true ∧ uartOn conf = true ∧ clkUart on = true ∧ uartOn on = false :=
  ⟨ref_valid, by decide⟩

theorem witness_ReadDataRegister :
    (rxOn received = true ∧ received.rxbuf = some 0x41) ∧ (rxOn conf = true ∧ conf.rxbuf = none) ∧
    clkUart on = true ∧ rxOn on = false := by decide

theorem witness_WriteDataRegister :
    256 ≤ (256#32).toNat ∧ (255#32).toNat < 256 ∧ (txOn conf = true ∧ conf.txbuf = none) ∧
    (txOn full = true ∧ full.txbuf = some 0x61) ∧ clkUart on = true ∧ txOn on = false := by decide

theorem witness_ReadBaudRegister :
    clkUart conf = true ∧ conf.baudValid = true ∧ 15 < conf.cfg.baudWidth ∧ conf.cfg.baudWidth ≤ 16 ∧
    clkUart on = true ∧ on.baudValid = false := by decide

theorem witness_WriteBaudRegister :
    2 ^ on.cfg.baudWidth ≤ (65536#32).toNat ∧ 1 ≤ (1#32).toNat ∧ (65535#32).toNat < 2 ^ on.cfg.baudWidth ∧
    clkUart on = true ∧ (on.txbuf = none ∧ on.rxbuf = none) ∧ clkUart full = true ∧ full.txbuf ≠ none ∧
    received.rxbuf ≠ none := by decide

theorem witness_ReadControlRegister : on.cfg.Valid ∧ clkUart on = true := ⟨ref_valid, by decide⟩

theorem witness_WriteControlRegister :
    (∃ i, (0x202C#32).getLsbD i = true ∧ i ≠ on.cfg.ctrlRe.val ∧ i ≠ on.cfg.ctrlTe.val ∧ i ≠ on.cfg.ctrlUe.val) ∧
    (∀ i, (0#32).getLsbD i = true → i = on.cfg.ctrlRe.val ∨ i = on.cfg.ctrlTe.val ∨ i = on.cfg.ctrlUe.val) ∧
    (clkUart on = true ∧ on.ctrl.re = false ∧ on.ctrl.te = false ∧ on.ctrl.ue = false) ∧
    (clkUart conf = true ∧ conf.txbuf = none ∧ conf.rxbuf = none) ∧
    clkUart full = true ∧ full.ctrl.te = true ∧ (0#32).getLsbD full.cfg.ctrlTe = false ∧ full.txbuf ≠ none :=
  ⟨⟨5, by decide⟩, fun i h => by simp at h, by decide⟩

theorem witness_ClockEnableRegister :
    ((0xFFFFFFFF#32).getLsbD on.cfg.clkBitGpio = true ∧ (0xFFFFFFFF#32).getLsbD on.cfg.clkBitUart = true) ∧
    (on.clken.getLsbD on.cfg.clkBitGpio = true ∧ (0#32).getLsbD on.cfg.clkBitGpio = false) ∧
    on.clken.getLsbD on.cfg.clkBitUart = true ∧ (0#32).getLsbD on.cfg.clkBitUart = false := by decide

theorem witness_ReadAfterWrite :
    on.Runs ∧ on.cfg.Valid ∧ clkGpio on = true ∧ clkUart on = true ∧
    (∃ t, exec (.wrBaud 69) on = .next t ∧ t.baud = 69) ∧ (∃ t, exec (.wrCtrl 0x200C) on = .next t ∧ t.ctrl.te = true) ∧
    ∃ t, exec (.wrClken 0x4004) on = .next t ∧ t.clken = 0x4004 :=
  ⟨by decide, ref_valid, by decide, by decide, next_of_after (by decide), next_of_after (by decide),
    next_of_after (by decide)⟩

theorem witness_FieldInsertLaws : 15 < 16 ∧ 27 < sh 15 ∧ sh 8 + 3 < 4 ∧ 14 < 16 ∧ mreg 14 = mreg 15 ∧ 14 ≠ 15 := by decide

theorem witness_FieldOfDoubleRegister : 15 < 16 ∧ 7 < 8 ∧ 8 ≤ 8 := by decide

theorem witness_PinElectricalState :
    conf.cfg.Valid ∧ 15 < 16 ∧ clkGpio gated = false ∧ clkGpio conf = true ∧
    field { conf with modeHi := 0x24444444 } 15 = conf.cfg.encOutPp ∧ field conf 0 = conf.cfg.encInFloat ∧
    (field conf 9 = conf.cfg.encAfPp ∧ 9 = conf.cfg.uartTxPin.val) ∧
    (field { conf with modeLo := 0x4444444B } 0 = conf.cfg.encAfPp ∧ 0 ≠ conf.cfg.uartTxPin.val) ∧
    field { conf with modeLo := 0 } 0 ≠ conf.cfg.encOutPp ∧ field { conf with modeLo := 0 } 0 ≠ conf.cfg.encInFloat ∧
    field { conf with modeLo := 0 } 0 ≠ conf.cfg.encAfPp := ⟨ref_valid, by decide⟩

theorem witness_EnableClockSetsItsBit :
    gated.cfg.Valid ∧ gated.AtCall ∧ on.AtCall ∧ on.clken.getLsbD (clkBit on.cfg .gpio) = true := ⟨ref_valid, by decide⟩

/-- One witness for the six statements about a pin operation with the bank clocked. -/
theorem witness_pin_operations : on.AtCall ∧ clkGpio on = true ∧ 15 < 16 ∧ 8 ≤ 15 ∧ 7 < 8 := by decide

theorem witness_SetPinModeInsertsField_split :
    State.AtCall { on with cfg := { ref with pinmodeSplit := true } } ∧
    ({ ref with pinmodeSplit := true } : Cfg).pinmodeSplit = true := by decide

theorem witness_GatedPinOperationHasNoEffect : gated.AtCall ∧ clkGpio gated = false ∧ 15 < 16 := by decide

theorem witness_LocalOperationsAlwaysStep : 15 < 16 := by decide

theorem witness_IllFormedCallRefused : 16 ≤ 16 ∧ 0x00#8 ∈ [0x61#8, 0x00#8] := by decide

theorem witness_OutputPinEndToEnd : ref.Valid ∧ ref.settleMode = .none ∧ 15 < 16 := ⟨ref_valid, by decide⟩

theorem witness_InterleavedTogglesLoseOne :
    0 ≠ 1 ∧ 0 < two.masters.length ∧ 1 < two.masters.length ∧ (two.runAs 0).AtCall ∧ (two.runAs 1).AtCall ∧
    clkGpio two = true ∧ 3 < 16 ∧ 4 < 16 ∧ 3 ≠ 4 := by decide

theorem witness_UartInitConfigures :
    gated.cfg.Valid ∧ gated.AtCall ∧ gated.Settled ∧ gated.txbuf = none ∧ gated.rxbuf = none ∧ (1#32) ≠ 0 ∧
    1 ≤ (1#32).toNat / (1#32).toNat ∧ (65535#32).toNat / (1#32).toNat < 2 ^ gated.cfg.baudWidth := ⟨ref_valid, by decide⟩

theorem witness_UartInitRefusesBadDivisor :
    gated.cfg.Valid ∧ gated.AtCall ∧ gated.Settled ∧ (2#32) ≠ 0 ∧ (1#32).toNat / (2#32).toNat = 0 ∧ (1#32) ≠ 0 ∧
    2 ^ gated.cfg.baudWidth ≤ (65536#32).toNat / (1#32).toNat := ⟨ref_valid, by decide⟩

theorem witness_TransportCallChecksConfigured :
    gated.AtCall ∧ (Instr.sendByte 0x41).wellFormed = true ∧ Instr.recvByte.wellFormed = true ∧
    (Instr.sendString [0x61]).wellFormed = true ∧ (Instr.sendUnsignedDecimal 0).wellFormed = true := by decide

/-- One witness for the statements about a transport operation from a `Configured` state with empty buffers. -/
theorem witness_transport_empty :
    conf.cfg.Valid ∧ conf.AtCall ∧ configured conf = true ∧ conf.txbuf = none ∧ conf.rxbuf = none ∧
    ∀ c ∈ [0x61#8, 0x0A#8], c ≠ 0x00#8 := ⟨ref_valid, by decide⟩

theorem witness_SendBytePollsUntilEmpty :
    full.cfg.Valid ∧ full.AtCall ∧ configured full = true ∧ full.txbuf = some 0x61 := ⟨ref_valid, by decide⟩

theorem witness_RecvByteReturnsByte :
    received.cfg.Valid ∧ received.AtCall ∧ configured received = true ∧ received.rxbuf = some 0x41 := ⟨ref_valid, by decide⟩

theorem witness_DecIsMinimalDecimal : (1#32) ≠ 0 := by decide

theorem witness_BusyWaitReturns : on.AtCall := by decide

/-- A byte in the buffer, and a run in which the transmit engine steps always. -/
theorem witness_TxProgressEmptiesBuffer :
    ∃ e r, IsRun e r ∧ TxProgress e r ∧ (r 0).txbuf = some 0x61 ∧ ∀ m, 0 ≤ m → txOn (r m) = true := by
  obtain ⟨r, h0, hr, hp⟩ := exists_run (P := fun s => txOn s = true) (e := fun _ => { agent := .txDrain }) (s := full)
    (by decide) (fun n t ht => ⟨_, rfl, by unfold txDrain; split <;> [split; skip] <;> exact ht⟩)
  exact ⟨_, r, hr, fun n _ => ⟨n, Nat.le_refl n, rfl⟩, by rw [h0]; rfl, fun m _ => hp m⟩

/-- A master inside `send_byte`, at the poll, with the transmit buffer full. -/
def polling (draws : List Word) (drawn : Nat) (tmp : Temps) : State :=
  { full with
    masters := [{ Master.idle with todo := [.op (.sendByte 0x62)], label := 1, tmp := tmp }]
    draws := draws
    drawn := drawn }

/-- What `STAT` reads as with the buffer full has `TXE` clear, whatever the other bits are. -/
theorem full_txe (any : Word) : (statWord full any).getLsbD 7 = false := by
  show (((0#32 ||| 0#32) &&& (1#32 <<< 7 ||| 1#32 <<< 5)) ||| (any &&& ~~~(1#32 <<< 7 ||| 1#32 <<< 5))).getLsbD 7 = false
  simp

/-- Such a master polls once more, and stands where it stood. -/
theorem polling_step (draws : List Word) (drawn : Nat) (tmp : Temps) :
    ∃ d n v, step ((polling draws drawn tmp).supply { agent := .master 0 }) = .next (polling d n { tmp with t := v }) := by
  rw [State.supply_agent]
  have hc : clkUart (polling draws drawn tmp) = true := by show clkUart full = true; decide
  have hu : uartOn (polling draws drawn tmp) = true := by show uartOn full = true; decide
  have h : step { polling draws drawn tmp with sched := [.master 0] } =
      runAct 3 (.poll .txe) (polling draws drawn tmp) := rfl
  rw [h]
  simp only [runAct, readStat, hc, hu, if_true]
  have ht : (statWord (polling draws drawn tmp) (polling draws drawn tmp).anyWord).getLsbD
      (flagBit (polling draws drawn tmp).cfg .txe) = false := full_txe _
  rw [ht]
  exact ⟨_, _, _, rfl⟩

/-- The run that 93_implementation_defined.md U4 asks for: with no step of the transmit engine, a master polls for
ever, and nothing marks the run. -/
theorem witness_endless_poll :
    ∃ e r, IsRun e r ∧ (r 0).txbuf = some 0x61 ∧ ∀ n, configured (r n) = true ∧ (r n).viol = false ∧
      currentAct (r n) = some (.poll .txe) ∧ transportState (r n) = some .transmitting := by
  obtain ⟨r, h0, hr, hp⟩ := exists_run (P := fun s => ∃ d n x, s = polling d n x ∧ x.entered = true)
    (e := fun _ => { agent := .master 0 }) (s := polling [] 0 { Temps.clear with entered := true }) ⟨_, _, _, rfl, rfl⟩
    (by
      rintro - t ⟨d, n, x, rfl, hx⟩
      obtain ⟨d, n, v, h⟩ := polling_step d n x
      exact ⟨_, h, d, n, _, rfl, hx⟩)
  refine ⟨_, r, hr, by rw [h0]; rfl, fun n => ?_⟩
  obtain ⟨d, k, x, h, hx⟩ := hp n
  rw [h]
  refine ⟨by show configured full = true; decide, rfl, rfl, ?_⟩
  show (if x.entered then _ else _) = _
  rw [if_pos hx]

/-! The logical state of the transport (R42), and an infinite program that does not repeat (R40, R210). -/

theorem test_transport_no_state :
    transportState { gated with masters := [{ Master.idle with todo := [.op .recvByte], label := 1 }] } = none := by decide
theorem test_supplied_item_runs :
    after (step (on.supply { agent := .master 0, items := fun _ => [.op (.wrOut 0x2000)] })) (fun s => s.out) =
      some 0x2000 := by decide
theorem test_print_program_counts :
    printProgram 115200 8000000 [0x61] (BitVec.ofNat 32) 3 6 = .op (.sendUnsignedDecimal 1) := by decide

end Sys2Proof.Tests
end

section
/-! The invariant of the model and what keeps it (10_state.md R29, R34, R35). The invariant speaks of a few fields
only, so a step that leaves them alone keeps it at once; what is left are the writes of `BAUD` and `CLKEN`, the settle
steps and the steps that take a byte from the line. -/

namespace Sys2Proof.Machine

/-- What `State.Inv` speaks of: every other field is free. -/
def State.invPart (s : State) : Cfg × Nat × (Bool × Word) × (Word × Bool × Bool) × List Byte × Nat × Nat :=
  (s.cfg, s.masters.length, (s.baudValid, s.baud), (s.clken, s.settlingGpio, s.settlingUart), s.rxIn, s.rxPos, s.rxLost)

/-- A change outside `State.invPart` keeps the invariant. -/
theorem State.Inv.of_invPart_eq {s t : State} (hs : s.Inv) (h : t.invPart = s.invPart) : t.Inv := by
  simp only [State.invPart, Prod.mk.injEq] at h
  obtain ⟨hcfg, hmasters, ⟨hvalid, hbaud⟩, ⟨hclken, hgpio, huart⟩, hin, hpos, hlost⟩ := h
  constructor
  case cfg_valid => rw [hcfg]; exact hs.cfg_valid
  case masters_count => rw [hcfg, hmasters]; exact hs.masters_count
  case baud_range => rw [hcfg, hvalid, hbaud]; exact hs.baud_range
  case settling_gpio => rw [hcfg, hclken, hgpio]; exact hs.settling_gpio
  case settling_uart => rw [hcfg, hclken, huart]; exact hs.settling_uart
  case rx_pos => rw [hin, hpos]; exact hs.rx_pos
  case rx_lost => rw [hlost, hpos]; exact hs.rx_lost

@[simp] theorem State.invPart_scheduled (s : State) : s.scheduled.invPart = s.invPart := rfl
@[simp] theorem State.invPart_runAs (s : State) (k : Nat) : (s.runAs k).invPart = s.invPart := rfl
@[simp] theorem State.invPart_violate (s : State) : s.violate.invPart = s.invPart := rfl
@[simp] theorem State.invPart_setMe (s : State) (m : Master) : (s.setMe m).invPart = s.invPart := by
  simp [State.invPart]

/-- A read transaction touches draws, the violation mark and the receive buffer at most. -/
theorem ReadStep.invPart_eq {s t : State} {x : Reg} {v : Word} (h : ReadStep s x v t) : t.invPart = s.invPart := by
  cases h with
  | gated _ _ => rfl
  | plain _ _ _ _ => rfl
  | merged _ _ _ _ => rfl
  | taken _ _ _ => rfl
  | off _ _ => rfl

/-- The values that a write of `BAUD` accepts (30_encoding.md R106). -/
theorem baudValueOk_iff {c : Cfg} {v : Word} : baudValueOk c v = true ↔ 1 ≤ v.toNat ∧ v.toNat < 2 ^ c.baudWidth := by
  simp [baudValueOk, Nat.one_le_iff_ne_zero, BitVec.toNat_eq]

/-- A write that does not clear a clock bit leaves both clock bits at least as they were (R135). -/
theorem clearsClock_eq_false_iff {s : State} {v : Word} : clearsClock s v = false ↔
    (s.clken.getLsbD s.cfg.clkBitGpio = true → v.getLsbD s.cfg.clkBitGpio = true) ∧
    (s.clken.getLsbD s.cfg.clkBitUart = true → v.getLsbD s.cfg.clkBitUart = true) := by
  simp [clearsClock]

/-- What it takes to start a peripheral settling (R135). -/
theorem startsSettling_iff {s : State} {i : Nat} {v : Word} : startsSettling s i v = true ↔
    s.cfg.settleMode = .nondet ∧ s.clken.getLsbD i = false ∧ v.getLsbD i = true := by
  simp [startsSettling, and_assoc]

/-- One settling flag across a write of `CLKEN`: it stays set only with its clock bit, which is not cleared, and is
newly set only together with its clock bit. -/
theorem settling_after_writeClken {s : State} {i : Nat} {v : Word} {settling : Bool}
    (hold : settling = true → s.cfg.settleMode = .nondet ∧ s.clken.getLsbD i = true)
    (hkeep : s.clken.getLsbD i = true → v.getLsbD i = true)
    (h : (settling || startsSettling s i v) = true) : s.cfg.settleMode = .nondet ∧ v.getLsbD i = true := by
  rcases Bool.or_eq_true_iff.mp h with hset | hstart
  · obtain ⟨hmode, hbit⟩ := hold hset
    exact ⟨hmode, hkeep hbit⟩
  · obtain ⟨hmode, -, hbit⟩ := startsSettling_iff.mp hstart
    exact ⟨hmode, hbit⟩

theorem WriteStep.inv {s t : State} {x : Reg} {v : Word} (h : WriteStep s v x t) (hs : s.Inv) : t.Inv := by
  cases h with
  | gated _ _ => exact hs.of_invPart_eq rfl
  | modeLo _ => exact hs.of_invPart_eq rfl
  | modeHi _ => exact hs.of_invPart_eq rfl
  | out _ => exact hs.of_invPart_eq rfl
  | filled _ _ _ => exact hs.of_invPart_eq rfl
  | off _ _ _ => exact hs.of_invPart_eq rfl
  | baud hv _ _ => exact { hs with baud_range := fun _ => baudValueOk_iff.mp hv }
  | ctrl _ _ _ => exact hs.of_invPart_eq rfl
  | clken hclear =>
    obtain ⟨hgpio, huart⟩ := clearsClock_eq_false_iff.mp hclear
    exact { hs with
      settling_gpio := settling_after_writeClken hs.settling_gpio hgpio
      settling_uart := settling_after_writeClken hs.settling_uart huart }

theorem BlockStep.inv {s t : State} (h : BlockStep s t) (hs : s.Inv) : t.Inv := by
  cases h with
  | same => exact hs
  | violated => exact hs.of_invPart_eq s.invPart_violate
  | read hr => exact hs.of_invPart_eq hr.invPart_eq
  | write hw => exact hw.inv hs

/-- Everything the receive side can do with the line (41_hardware_steps.md R151 to R153). -/
inductive LineStep (s : State) : State → Prop where
  /-- No step of the receive side is enabled. -/
  | idle : LineStep s s
  /-- The next byte goes into the empty receive buffer. -/
  | received {b : Byte} (hb : s.rxIn[s.rxPos]? = some b) (hbuf : s.rxbuf = none) : LineStep s (receiveByte s b)
  /-- The next byte meets a full receive buffer, and one of the two is lost. -/
  | overrun {b old kept : Byte} (hb : s.rxIn[s.rxPos]? = some b) (hbuf : s.rxbuf = some old)
      (hkept : kept = b ∨ kept = old) : LineStep s { loseByte s with rxbuf := some kept }
  /-- The next byte is lost. -/
  | lost {b : Byte} (hb : s.rxIn[s.rxPos]? = some b) : LineStep s (loseByte s)

theorem takeFromLine_cases {s : State} {b : Byte} (hb : s.rxIn[s.rxPos]? = some b) (keepNew : Bool) :
    LineStep s (takeFromLine s b keepNew) := by
  unfold takeFromLine
  split
  · exact .received hb ‹_›
  · exact .overrun hb ‹_› (by cases keepNew <;> simp)

theorem rxArrive_cases (s : State) : LineStep s (rxArrive s) := by
  unfold rxArrive
  split
  · split
    · exact takeFromLine_cases ‹_› _
    · exact .idle
  · exact .idle

theorem rxOverrun_cases (keepNew : Bool) (s : State) : LineStep s (rxOverrun keepNew s) := by
  unfold rxOverrun
  split
  · split
    · exact takeFromLine_cases ‹_› _
    · exact .idle
  · exact .idle

theorem rxDrop_cases (receive keepNew : Bool) (s : State) : LineStep s (rxDrop receive keepNew s) := by
  unfold rxDrop
  split
  · rename_i b hb
    split_ifs
    · exact .idle
    · exact takeFromLine_cases hb _
    · exact .lost hb
    · exact .lost hb
  · exact .idle

/-- There is a byte to take, so the position stays within the input; and a lost byte is also a taken one (R34). -/
theorem LineStep.inv {s t : State} (h : LineStep s t) (hs : s.Inv) : t.Inv := by
  have hlost := hs.rx_lost
  have hpos {b : Byte} (hb : s.rxIn[s.rxPos]? = some b) : s.rxPos + 1 ≤ s.rxIn.length :=
    (List.getElem?_eq_some_iff.mp hb).1
  cases h with
  | idle => exact hs
  | received hb _ => exact { hs with rx_pos := hpos hb, rx_lost := Nat.le_succ_of_le hlost }
  | overrun hb _ _ => exact { hs with rx_pos := hpos hb, rx_lost := Nat.succ_le_succ hlost }
  | lost hb => exact { hs with rx_pos := hpos hb, rx_lost := Nat.succ_le_succ hlost }

theorem State.invPart_txDrain (s : State) : (txDrain s).invPart = s.invPart := by
  unfold txDrain
  split
  · split <;> rfl
  · rfl

theorem settleGpio_inv {s : State} (hs : s.Inv) : (settleGpio s).Inv := by
  unfold settleGpio
  split
  · exact { hs with settling_gpio := nofun }
  · exact hs

theorem settleUart_inv {s : State} (hs : s.Inv) : (settleUart s).Inv := by
  unfold settleUart
  split
  · exact { hs with settling_uart := nofun }
  · exact hs

theorem AgentStep.inv {s t : State} {a : Agent} (h : AgentStep s a t) (hs : s.Inv) : t.Inv := by
  cases h with
  | @instr k _ u m _ _ hb =>
    have hrun : (s.runAs k).Inv := hs.of_invPart_eq (s.invPart_runAs k)
    exact (hb.inv hrun).of_invPart_eq (u.invPart_setMe m)
  | alone m => exact hs.of_invPart_eq (State.invPart_setMe _ m)
  | txDrain => exact hs.of_invPart_eq s.invPart_txDrain
  | rxArrive => exact (rxArrive_cases s).inv hs
  | rxOverrun keepNew => exact (rxOverrun_cases keepNew s).inv hs
  | rxDrop receive keepNew => exact (rxDrop_cases receive keepNew s).inv hs
  | settleGpio => exact settleGpio_inv hs
  | settleUart => exact settleUart_inv hs

/-- Settles O11: whichever agent is scheduled, its step is one of `AgentStep`, and each of those keeps the
invariant. -/
theorem stepKeepsInvariant : Obligations.StepKeepsInvariant := by
  intro s t hs h
  have hsched : s.scheduled.Inv := hs.of_invPart_eq s.invPart_scheduled
  exact (step_cases h).inv hsched

end Sys2Proof.Machine
end

section
/-! What every step keeps, whichever agent takes it: the violation mark (10_state.md R36), the parameters of the run
(R45) and the bytes taken from the line (R34). -/

namespace Sys2Proof.Machine

/-- The violation mark is not cleared, the configuration and the line input are the same, and no byte goes back to the
line. -/
structure State.Grows (s t : State) : Prop where
  viol : s.viol = true → t.viol = true
  cfg : t.cfg = s.cfg
  rxIn : t.rxIn = s.rxIn
  rxPos : s.rxPos ≤ t.rxPos

theorem State.Grows.refl (s : State) : s.Grows s := ⟨id, rfl, rfl, le_rfl⟩

theorem State.Grows.trans {s t u : State} (hst : s.Grows t) (htu : t.Grows u) : s.Grows u where
  viol := htu.viol ∘ hst.viol
  cfg := htu.cfg.trans hst.cfg
  rxIn := htu.rxIn.trans hst.rxIn
  rxPos := hst.rxPos.trans htu.rxPos

theorem State.grows_violate (s : State) : s.Grows s.violate := ⟨fun _ => rfl, rfl, rfl, le_rfl⟩
theorem State.grows_afterDraw (s : State) : s.Grows s.afterDraw := ⟨id, rfl, rfl, le_rfl⟩
theorem State.grows_setMe (s : State) (m : Master) : s.Grows (s.setMe m) := ⟨id, rfl, rfl, le_rfl⟩
theorem State.grows_runAs (s : State) (k : Nat) : s.Grows (s.runAs k) := ⟨id, rfl, rfl, le_rfl⟩
theorem State.grows_scheduled (s : State) : s.Grows s.scheduled := ⟨id, rfl, rfl, le_rfl⟩

theorem ReadStep.grows {s t : State} {x : Reg} {v : Word} (h : ReadStep s x v t) : s.Grows t := by
  cases h with
  | gated _ _ => exact s.grows_afterDraw.trans s.afterDraw.grows_violate
  | plain _ _ _ _ => exact .refl s
  | merged _ _ _ _ => exact s.grows_afterDraw
  | taken _ _ _ => exact ⟨id, rfl, rfl, le_rfl⟩
  | off _ _ => exact ⟨fun _ => rfl, rfl, rfl, le_rfl⟩

theorem WriteStep.grows {s t : State} {x : Reg} {v : Word} (h : WriteStep s v x t) : s.Grows t := by
  cases h with
  | gated _ _ => exact s.grows_violate
  | off _ _ _ => exact ⟨fun _ => rfl, rfl, rfl, le_rfl⟩
  | modeLo _ | modeHi _ | out _ | filled _ _ _ | baud _ _ _ | ctrl _ _ _ | clken _ => exact ⟨id, rfl, rfl, le_rfl⟩

theorem BlockStep.grows {s t : State} (h : BlockStep s t) : s.Grows t := by
  cases h with
  | same => exact .refl s
  | violated => exact s.grows_violate
  | read hr => exact hr.grows
  | write hw => exact hw.grows

/-- Only the receive side moves the position in the line input, and only forward. -/
theorem LineStep.grows {s t : State} (h : LineStep s t) : s.Grows t := by
  cases h with
  | idle => exact .refl s
  | received _ _ | overrun _ _ _ | lost _ => exact ⟨id, rfl, rfl, Nat.le_succ s.rxPos⟩

theorem txDrain_grows (s : State) : s.Grows (txDrain s) := by
  unfold txDrain
  split
  · split
    · exact ⟨id, rfl, rfl, le_rfl⟩
    · exact .refl s
  · exact .refl s

theorem settleGpio_grows (s : State) : s.Grows (settleGpio s) := by
  unfold settleGpio
  split
  · exact ⟨id, rfl, rfl, le_rfl⟩
  · exact .refl s

theorem settleUart_grows (s : State) : s.Grows (settleUart s) := by
  unfold settleUart
  split
  · exact ⟨id, rfl, rfl, le_rfl⟩
  · exact .refl s

theorem AgentStep.grows {s t : State} {a : Agent} (h : AgentStep s a t) : s.Grows t := by
  cases h with
  | @instr k _ u m _ _ hb => exact (s.grows_runAs k).trans (hb.grows.trans (u.grows_setMe m))
  | @alone k m => exact (s.grows_runAs k).trans ((s.runAs k).grows_setMe m)
  | txDrain => exact txDrain_grows s
  | rxArrive => exact (rxArrive_cases s).grows
  | rxOverrun keepNew => exact (rxOverrun_cases keepNew s).grows
  | rxDrop receive keepNew => exact (rxDrop_cases receive keepNew s).grows
  | settleGpio => exact settleGpio_grows s
  | settleUart => exact settleUart_grows s

/-- Settles O12: `State.Grows` holds across the step of every agent. -/
theorem stepKeepsViolationMark : Obligations.StepKeepsViolationMark := by
  intro s t h
  obtain ⟨hviol, hcfg, hin, hpos⟩ := s.grows_scheduled.trans (step_cases h).grows
  exact ⟨hviol, hcfg, hin, hpos⟩

end Sys2Proof.Machine
end

section
/-! Pins: the field of a pin in the double register (10_state.md R24), the mode of a code (R25) and the electrical state
of a pin (R44). -/

namespace Sys2Proof.Machine

theorem field_of_lt {s : State} {p : Nat} (h : p < 8) : field s p = s.modeLo.extractLsb' (4 * p) 4 := if_pos h

theorem field_of_le {s : State} {p : Nat} (h : 8 ≤ p) : field s p = s.modeHi.extractLsb' (4 * (p - 8)) 4 :=
  if_neg (Nat.not_lt.mpr h)

/-- No field crosses the border between the two mode registers, so each is a slice of one half. -/
theorem field_eq_extract_append (s : State) (p : Nat) :
    field s p = (s.modeHi ++ s.modeLo).extractLsb' (4 * p) 4 := by
  rcases Nat.lt_or_ge p 8 with h | h
  · rw [field_of_lt h, BitVec.extractLsb'_append_eq_of_add_le (by omega)]
  · rw [field_of_le h, BitVec.extractLsb'_append_eq_of_le (by omega), Nat.mul_sub]

/-- Settles O34: the field of a pin below 8 lies in the low half, every other in the high half. -/
theorem fieldOfDoubleRegister : Obligations.FieldOfDoubleRegister :=
  fun s p _ => ⟨field_eq_extract_append s p, field_of_lt, field_of_le⟩

/-- The three mode codes of an admitted configuration are distinct (00_scope.md R7). -/
theorem modeCodes_distinct {c : Cfg} (hc : c.Valid) :
    c.encInFloat ≠ c.encOutPp ∧ c.encInFloat ≠ c.encAfPp ∧ c.encOutPp ≠ c.encAfPp := by
  obtain ⟨-, -, -, -, -, henc, -⟩ := hc
  exact henc

theorem modeOf_enc {c : Cfg} (hc : c.Valid) (m : PinMode) : modeOf c (enc c m) = some m := by
  obtain ⟨hinOut, hinAf, houtAf⟩ := modeCodes_distinct hc
  cases m with
  | inFloat => simp [modeOf, enc]
  | outPp => simp [modeOf, enc, hinOut.symm]
  | afPp => simp [modeOf, enc, hinAf.symm, houtAf.symm]

theorem modeOf_eq_none {c : Cfg} {code : BitVec 4} (h : ∀ m, code ≠ enc c m) : modeOf c code = none := by
  have hin : code ≠ c.encInFloat := h .inFloat
  have hout : code ≠ c.encOutPp := h .outPp
  have haf : code ≠ c.encAfPp := h .afPp
  simp [modeOf, hin, hout, haf]

/-- The electrical state that a pin mode gives a pin of a clocked bank (R44). -/
def pinOutOf (s : State) (p : Nat) : PinMode → PinOut
  | .outPp => .driven (s.out.getLsbD p)
  | .inFloat => .undriven
  | .afPp => .peripheral (if p = s.cfg.uartTxPin then .uartTx else .unspecified)

theorem pinOut_gated {s : State} {p : Nat} (h : clkGpio s = false) : pinOut s p = .unspecified := by
  simp [pinOut, h]

theorem pinOut_of_field_eq_enc {s : State} {p : Nat} {m : PinMode} (hc : s.cfg.Valid) (h : clkGpio s = true)
    (hm : field s p = enc s.cfg m) : pinOut s p = pinOutOf s p m := by
  unfold pinOut
  rw [if_pos h, hm, modeOf_enc hc]
  cases m <;> rfl

theorem pinOut_of_field_ne_enc {s : State} {p : Nat} (h : clkGpio s = true) (hm : ∀ m, field s p ≠ enc s.cfg m) :
    pinOut s p = .unspecified := by
  simp [pinOut, h, modeOf_eq_none hm]

/-- Settles O35: the code in the pin's field is that of one mode, because the codes are distinct, or of none. -/
theorem pinElectricalState : Obligations.PinElectricalState := by
  intro s p hc _
  refine ⟨pinOut_gated, fun hclk => ⟨?outPp, ?inFloat, ?afTx, ?afOther, ?other⟩⟩
  case outPp => exact fun hm => pinOut_of_field_eq_enc (m := .outPp) hc hclk hm
  case inFloat => exact fun hm => pinOut_of_field_eq_enc (m := .inFloat) hc hclk hm
  case afTx =>
    intro hm hp
    simpa [pinOutOf, hp] using pinOut_of_field_eq_enc (m := .afPp) hc hclk hm
  case afOther =>
    intro hm hp
    simpa [pinOutOf, hp] using pinOut_of_field_eq_enc (m := .afPp) hc hclk hm
  case other =>
    intro hout hin haf
    refine pinOut_of_field_ne_enc hclk fun m => ?_
    cases m with
    | inFloat => exact hin
    | outPp => exact hout
    | afPp => exact haf

end Sys2Proof.Machine
end

section
/-! Which step the system takes: the scheduled agent's, and for a master that of the item it stands before (10_state.md
R20, R40). -/

namespace Sys2Proof.Machine

theorem step_of_nextAgent {s : State} {a : Agent} (h : nextAgent s = a) : step s = agentStep a s.scheduled :=
  congrArg (agentStep · s.scheduled) h

theorem step_of_master {s : State} {k : Nat} (h : nextAgent s = .master k) :
    step s = masterStep (s.scheduled.runAs k) := step_of_nextAgent h

theorem masterStep_of_run {s : State} {i : Instr} (h : fetch s = .run i) : masterStep s = exec i s := by
  simp [masterStep, h]

theorem masterStep_of_idle {s : State} (h : fetch s = .idle) : masterStep s = .next s := by
  simp [masterStep, h]

theorem masterStep_of_skip {s : State} (h : fetch s = .skip) : masterStep s = .next s.finish := by
  simp [masterStep, h]

theorem masterStep_of_refuse {s : State} {r : Refusal} (h : fetch s = .refuse r) : masterStep s = .refused r := by
  simp [masterStep, h]

theorem fetch_of_slot {s : State} {i : Slot} (h : s.me.slot = some i) : fetch s = slotInstr s.cfg s.me.ret i := by
  simp [fetch, h]

/-- The schedule is no part of what a master stands before. -/
theorem State.me_runAs_scheduled (s : State) (k : Nat) : (s.scheduled.runAs k).me = (s.runAs k).me := rfl

/-- Settles O5: a scheduled master runs what it fetched, and from a format-B word it fetches what the word decodes
to. -/
theorem stepRunsFetchedInstruction : Obligations.StepRunsFetchedInstruction := by
  intro s k hk
  have hrun : ∀ i, fetch (s.scheduled.runAs k) = .run i → step s = exec i (s.scheduled.runAs k) :=
    fun i hi => (step_of_master hk).trans (masterStep_of_run hi)
  refine ⟨hrun, fun w hw => hrun (decode w) ?_⟩
  exact fetch_of_slot ((congrArg Master.slot (s.me_runAs_scheduled k)).trans hw)

/-- Settles O6: the step is the scheduled agent's; of a master, it is by what the master fetched. -/
theorem stepOfOtherAgents : Obligations.StepOfOtherAgents := by
  intro s
  refine ⟨step_of_nextAgent, step_of_nextAgent, fun _ => step_of_nextAgent, fun _ _ => step_of_nextAgent,
    step_of_nextAgent, step_of_nextAgent, fun k hk => ⟨?idle, ?skip, ?refuse⟩⟩
  case idle => exact fun hf => (step_of_master hk).trans (masterStep_of_idle hf)
  case skip => exact fun hf => (step_of_master hk).trans (masterStep_of_skip hf)
  case refuse => exact fun r hf => (step_of_master hk).trans (masterStep_of_refuse hf)

end Sys2Proof.Machine
end

section
/-! The record of the running master at the end of an operation (10_state.md R39, R40). -/

namespace Sys2Proof.Machine

/-- A write of the running master's record leaves every other master as it was. -/
theorem State.setMe_masters_getElem?_of_ne {s : State} {k : Nat} (m : Master) (h : k ≠ s.cur) :
    (s.setMe m).masters[k]? = s.masters[k]? := by
  simp [h.symm]

/-- Settles O8: both ends of an operation are one write of the running master's record. -/
theorem finishMovesMasterOn : Obligations.FinishMovesMasterOn := by
  intro s r hruns
  refine ⟨?finish, ?finishWith, ?others, rfl, rfl⟩
  case finish => exact s.me_setMe s.me.finish hruns
  case finishWith => exact s.me_setMe { s.me.finish with ret := r } hruns
  case others => exact fun k hk => ⟨State.setMe_masters_getElem?_of_ne _ hk, State.setMe_masters_getElem?_of_ne _ hk⟩

end Sys2Proof.Machine
end

section
/-! The state after reset (10_state.md R43), under any admitted configuration and of the target device. -/

namespace Sys2Proof.Machine

/-- An admitted configuration resets with both modelled clocks off (00_scope.md R7). -/
theorem resetClken_off {c : Cfg} (hc : c.Valid) :
    c.resetClken.getLsbD c.clkBitGpio = false ∧ c.resetClken.getLsbD c.clkBitUart = false := by
  obtain ⟨-, -, -, -, -, -, -, -, -, hclken⟩ := hc
  exact hclken

/-- An admitted configuration has a master (00_scope.md R7). -/
theorem ntasks_pos {c : Cfg} (hc : c.Valid) : 1 ≤ c.ntasks := by
  obtain ⟨-, -, -, -, -, -, -, -, hntasks, -⟩ := hc
  exact hntasks

theorem State.resetWith_masters {c : Cfg} (hc : c.Valid) :
    (State.resetWith c).masters = List.replicate c.ntasks Master.idle := by
  rw [← Nat.sub_add_cancel (ntasks_pos hc)]
  rfl

theorem State.resetWith_masters_length {c : Cfg} (hc : c.Valid) : (State.resetWith c).masters.length = c.ntasks := by
  simp [State.resetWith_masters hc]

theorem State.resetWith_label {c : Cfg} (hc : c.Valid) : ∀ m ∈ (State.resetWith c).masters, m.label = 0 := by
  intro m hm
  rw [State.resetWith_masters hc] at hm
  rw [List.eq_of_mem_replicate hm]
  rfl

theorem clkUart_resetWith {c : Cfg} (hc : c.Valid) : clkUart (State.resetWith c) = false := by
  have hbit : (State.resetWith c).clken.getLsbD (State.resetWith c).cfg.clkBitUart = false := (resetClken_off hc).2
  simp only [clkUart, hbit, Bool.false_and]

/-- Without its clock the UART is not `Configured` (R38). -/
theorem configured_eq_false_of_clkUart {s : State} (h : clkUart s = false) : configured s = false := by
  simp [configured, h]

/-- The target device's configuration is an admitted one. -/
theorem device_valid : Config.device.cfg.Valid := Config.device.valid

/-- Settles O9: the fields hold their parameters; what is left are the clock bits, the masters and `Configured`, which
the constraints on the configuration decide. -/
theorem resetValues : Obligations.ResetValues := by
  refine ⟨fun c hc => ?_, Config.device.cfg, device_valid, rfl⟩
  obtain ⟨hgpio, huart⟩ := resetClken_off hc
  exact ⟨hgpio, huart, rfl, rfl, rfl, rfl, rfl, rfl, rfl, rfl, rfl, rfl, rfl, rfl, rfl, rfl,
    State.resetWith_masters_length hc, State.resetWith_label hc, configured_eq_false_of_clkUart (clkUart_resetWith hc)⟩

/-- No divisor is written, nothing settles and no byte is taken, so the configuration alone decides the invariant. -/
theorem State.resetWith_inv {c : Cfg} (hc : c.Valid) : (State.resetWith c).Inv where
  cfg_valid := hc
  masters_count := State.resetWith_masters_length hc
  baud_range := nofun
  settling_gpio := nofun
  settling_uart := nofun
  rx_pos := Nat.zero_le _
  rx_lost := le_rfl

/-- Settles O10: the target device's reset state is the one of an admitted configuration. -/
theorem resetHasInvariant : Obligations.ResetHasInvariant := State.resetWith_inv device_valid

end Sys2Proof.Machine
end

section
/-! Which register a bus access names (20_memory.md R61 to R63, R65). -/

namespace Sys2Proof.Machine

/-- The registers in the order in which the address decoder tries them. -/
def allRegs : List Reg := [.modeLo, .modeHi, .out, .stat, .data, .baud, .ctrl, .clken]

theorem mem_allRegs (x : Reg) : x ∈ allRegs := by cases x <;> decide

theorem regOf_eq_find (c : Cfg) (a : Word) : regOf c a = allRegs.find? fun x => addrOf c x == a := rfl

theorem addresses_eq_map (c : Cfg) : c.addresses = allRegs.map (addrOf c) := rfl

/-- The addresses of an admitted configuration are distinct (00_scope.md R7). -/
theorem addrOf_injective {c : Cfg} (hc : c.Valid) : Function.Injective (addrOf c) := by
  obtain ⟨-, hnodup, -⟩ := hc
  rw [addresses_eq_map] at hnodup
  exact fun x y h => List.inj_on_of_nodup_map hnodup (mem_allRegs x) (mem_allRegs y) h

/-- The addresses of an admitted configuration are aligned (00_scope.md R7). -/
theorem addrOf_aligned {c : Cfg} (hc : c.Valid) (x : Reg) : (addrOf c x).toNat % 4 = 0 := by
  obtain ⟨halign, -⟩ := hc
  rw [addresses_eq_map, List.all_map, List.all_eq_true] at halign
  exact beq_iff_eq.mp (halign x (mem_allRegs x))

theorem addrOf_of_regOf {c : Cfg} {a : Word} {x : Reg} (h : regOf c a = some x) : addrOf c x = a := by
  have hfound : (addrOf c x == a) = true := List.find?_some (p := fun y => addrOf c y == a) h
  exact beq_iff_eq.mp hfound

/-- Some register is found, and no other one has the address. -/
theorem regOf_addrOf {c : Cfg} (hc : c.Valid) (x : Reg) : regOf c (addrOf c x) = some x := by
  have hfound : (regOf c (addrOf c x)).isSome := by
    rw [regOf_eq_find, List.find?_isSome]
    exact ⟨x, mem_allRegs x, beq_self_eq_true _⟩
  obtain ⟨y, hy⟩ := Option.isSome_iff_exists.mp hfound
  rw [hy, addrOf_injective hc (addrOf_of_regOf hy)]

theorem regOf_eq_none {c : Cfg} {a : Word} (h : ∀ x, addrOf c x ≠ a) : regOf c a = none := by
  rw [regOf_eq_find, List.find?_eq_none]
  exact fun x _ hx => h x (beq_iff_eq.mp hx)

theorem accessReg_of_width {c : Cfg} {a : Word} {n : Nat} (h : n ≠ 4) : accessReg c a n = .error .accessWidth :=
  if_pos h

theorem accessReg_of_misaligned {c : Cfg} {a : Word} (h : a.toNat % 4 ≠ 0) :
    accessReg c a 4 = .error .accessMisaligned := by simp [accessReg, h]

theorem accessReg_of_no_register {c : Cfg} {a : Word} (ha : a.toNat % 4 = 0) (h : ∀ x, addrOf c x ≠ a) :
    accessReg c a 4 = .error .accessNoRegister := by simp [accessReg, ha, regOf_eq_none h]

theorem accessReg_addrOf {c : Cfg} (hc : c.Valid) (x : Reg) : accessReg c (addrOf c x) 4 = .ok x := by
  simp [accessReg, addrOf_aligned hc x, regOf_addrOf hc x]

section
variable {c : Cfg} {a : Word} {n : Nat}

theorem slotInstr_memRead_ok {x : Reg} (h : accessReg c a n = .ok x) (ret : Word) :
    slotInstr c ret (.memRead a n) = .run (readOf x) := by simp [slotInstr, h]

theorem slotInstr_memWrite_ok {x : Reg} (h : accessReg c a n = .ok x) (ret v : Word) :
    slotInstr c ret (.memWrite a n v) = .run (writeOf x v) := by simp [slotInstr, h]

/-- An access that names no register is refused for the decoder's reason, whichever way the data goes. -/
theorem slotInstr_access_error {r : Refusal} (h : accessReg c a n = .error r) (ret v : Word) :
    slotInstr c ret (.memRead a n) = .refuse r ∧ slotInstr c ret (.memWrite a n v) = .refuse r := by
  simp [slotInstr, h]

end

/-- Settles O7: the decoder finds each register at its own address, and the three checks before it refuse the rest. -/
theorem busAccessNamesRegister : Obligations.BusAccessNamesRegister := by
  intro c hc ret
  refine ⟨?read, ?write, ?width, ?misaligned, ?noRegister⟩
  case read => exact fun x => slotInstr_memRead_ok (accessReg_addrOf hc x) ret
  case write => exact fun x v => slotInstr_memWrite_ok (accessReg_addrOf hc x) ret v
  case width => exact fun a n v hn => slotInstr_access_error (accessReg_of_width hn) ret v
  case misaligned => exact fun a v ha => slotInstr_access_error (accessReg_of_misaligned ha) ret v
  case noRegister => exact fun a v ha h => slotInstr_access_error (accessReg_of_no_register ha h) ret v

end Sys2Proof.Machine
end

section
/-! What the hardware changes by itself (20_memory.md R69). -/

namespace Sys2Proof.Machine

/-- The two states differ at most in the two buffers, the two line records, the count of lost bytes and the settling
flags. -/
def State.SameButHardware (s t : State) : Prop :=
  t = { s with txbuf := t.txbuf, rxbuf := t.rxbuf, txLine := t.txLine, rxPos := t.rxPos, rxLost := t.rxLost,
               settlingGpio := t.settlingGpio, settlingUart := t.settlingUart }

theorem LineStep.sameButHardware {s t : State} (h : LineStep s t) : s.SameButHardware t := by
  cases h with
  | idle | received _ _ | overrun _ _ _ | lost _ => rfl

theorem txDrain_sameButHardware (s : State) : s.SameButHardware (txDrain s) := by
  unfold txDrain
  split
  · split <;> rfl
  · rfl

theorem settleGpio_sameButHardware (s : State) : s.SameButHardware (settleGpio s) := by
  unfold settleGpio
  split <;> rfl

theorem settleUart_sameButHardware (s : State) : s.SameButHardware (settleUart s) := by
  unfold settleUart
  split <;> rfl

/-- Settles O15: every agent but a master drains the transmit buffer, takes from the line or settles a clock. -/
theorem hardwareKeepsConfigurationRegisters : Obligations.HardwareKeepsConfigurationRegisters := by
  intro a s t hmaster h
  cases agentStep_cases h with
  | @instr k _ _ _ _ _ _ => exact absurd rfl (hmaster k)
  | @alone k _ => exact absurd rfl (hmaster k)
  | txDrain => exact txDrain_sameButHardware s
  | rxArrive => exact (rxArrive_cases s).sameButHardware
  | rxOverrun keepNew => exact (rxOverrun_cases keepNew s).sameButHardware
  | rxDrop receive keepNew => exact (rxDrop_cases receive keepNew s).sameButHardware
  | settleGpio => exact settleGpio_sameButHardware s
  | settleUart => exact settleUart_sameButHardware s

end Sys2Proof.Machine
end

section
/-! Bus transactions as the program meets them (20_memory.md R65, 30_encoding.md R109): a bare transaction is the read
or the write of its register and the end of the instruction, and neither touches a master's record before that end. -/

namespace Sys2Proof.Machine

theorem exec_readOf (x : Reg) (s : State) : exec (readOf x) s = returnReadOrRefuse (busRead x s) := by
  cases x <;> rfl

theorem exec_writeOf (x : Reg) (v : Word) (s : State) : exec (writeOf x v) s = finishOrRefuse (busWrite x v s) := by
  cases x <;> rfl

theorem exec_readOf_of_ok {x : Reg} {s t : State} {v : Word} (h : busRead x s = .ok (v, t)) :
    exec (readOf x) s = .next (t.finishWith v) := by
  rw [exec_readOf, h]; rfl

theorem exec_writeOf_of_ok {x : Reg} {s t : State} {v : Word} (h : busWrite x v s = .ok t) :
    exec (writeOf x v) s = .next t.finish := by
  rw [exec_writeOf, h]; rfl

theorem exec_writeOf_eq_next {x : Reg} {s t : State} {v : Word} (h : exec (writeOf x v) s = .next t) :
    ∃ u, busWrite x v s = .ok u ∧ t = u.finish := by
  rw [exec_writeOf] at h
  cases hw : busWrite x v s with
  | ok u => rw [hw] at h; cases h; exact ⟨u, rfl, rfl⟩
  | error e => rw [hw] at h; cases h

theorem ReadStep.masters_eq {s t : State} {x : Reg} {v : Word} (h : ReadStep s x v t) : t.masters = s.masters := by
  cases h <;> rfl

theorem ReadStep.cur_eq {s t : State} {x : Reg} {v : Word} (h : ReadStep s x v t) : t.cur = s.cur := by
  cases h <;> rfl

theorem ReadStep.me_eq {s t : State} {x : Reg} {v : Word} (h : ReadStep s x v t) : t.me = s.me := by
  rw [State.me, State.me, h.masters_eq, h.cur_eq]

theorem ReadStep.runs {s t : State} {x : Reg} {v : Word} (h : ReadStep s x v t) (hs : s.Runs) : t.Runs := by
  rwa [State.Runs, h.masters_eq, h.cur_eq]

theorem WriteStep.masters_eq {s t : State} {x : Reg} {v : Word} (h : WriteStep s v x t) : t.masters = s.masters := by
  cases h <;> rfl

theorem WriteStep.cur_eq {s t : State} {x : Reg} {v : Word} (h : WriteStep s v x t) : t.cur = s.cur := by
  cases h <;> rfl

theorem WriteStep.me_eq {s t : State} {x : Reg} {v : Word} (h : WriteStep s v x t) : t.me = s.me := by
  rw [State.me, State.me, h.masters_eq, h.cur_eq]

theorem WriteStep.runs {s t : State} {x : Reg} {v : Word} (h : WriteStep s v x t) (hs : s.Runs) : t.Runs := by
  rwa [State.Runs, h.masters_eq, h.cur_eq]

theorem State.runs_setMe {s : State} (m : Master) (hs : s.Runs) : (s.setMe m).Runs := by
  rwa [State.Runs, State.setMe_masters_length, State.setMe_cur]

/-- A bare read hands its value to the program. -/
theorem exec_readOf_ret {x : Reg} {s t : State} {v : Word} (hs : s.Runs) (h : busRead x s = .ok (v, t)) :
    ∃ u, exec (readOf x) s = .next u ∧ u.me.ret = v := by
  refine ⟨_, exec_readOf_of_ok h, ?_⟩
  rw [State.finishWith_eq, State.me_setMe _ _ ((busRead_cases h).runs hs)]

/-- A write and the read that follows it, of whatever register. -/
theorem exec_write_then_read {x y : Reg} {s t u : State} {v w : Word} (hs : s.Runs) (hw : busWrite x v s = .ok t)
    (hr : busRead y t.finish = .ok (w, u)) :
    exec (writeOf x v) s = .next t.finish ∧ ∃ r, exec (readOf y) t.finish = .next r ∧ r.me.ret = w :=
  ⟨exec_writeOf_of_ok hw, exec_readOf_ret (State.runs_setMe _ ((busWrite_cases hw).runs hs)) hr⟩

end Sys2Proof.Machine
end

section
/-! What the reads of a clocked register answer and what its writes store (40_bus_transactions.md R120 to R135). -/

namespace Sys2Proof.Machine

theorem busRead_modeLo {s : State} (h : clkGpio s = true) : busRead .modeLo s = .ok (s.modeLo, s) := by
  simp [busRead, readModeLo, h]

theorem busRead_modeHi {s : State} (h : clkGpio s = true) : busRead .modeHi s = .ok (s.modeHi, s) := by
  simp [busRead, readModeHi, h]

theorem busRead_out {s : State} (h : clkGpio s = true) : busRead .out s = .ok (outWord s s.anyWord, s.afterDraw) := by
  simp [busRead, readOut, h]

theorem busRead_baud {s : State} (h : clkUart s = true) (hv : s.baudValid = true) :
    busRead .baud s = .ok (baudWord s s.anyWord, s.afterDraw) := by
  simp [busRead, readBaud, h, hv]

theorem busRead_ctrl {s : State} (h : clkUart s = true) :
    busRead .ctrl s = .ok (ctrlWord s s.anyWord, s.afterDraw) := by
  simp [busRead, readCtrl, h]

theorem busRead_clken (s : State) : busRead .clken s = .ok (s.clken, s) := rfl

theorem busWrite_modeLo {s : State} (h : clkGpio s = true) (v : Word) :
    busWrite .modeLo v s = .ok { s with modeLo := v } := by
  simp [busWrite, writeModeLo, h]

theorem busWrite_modeHi {s : State} (h : clkGpio s = true) (v : Word) :
    busWrite .modeHi v s = .ok { s with modeHi := v } := by
  simp [busWrite, writeModeHi, h]

theorem busWrite_out {s : State} (h : clkGpio s = true) (v : Word) :
    busWrite .out v s = .ok { s with out := v.extractLsb' 0 16 } := by
  simp [busWrite, writeOut, h]

theorem WriteStep.eq_of_baud {s t : State} {v : Word} (h : WriteStep s v .baud t) (hclk : clkUart s = true) :
    t = { s with baud := v, baudValid := true } := by
  cases h with
  | gated _ hgated => exact absurd (hclk.symm.trans hgated) Bool.noConfusion
  | baud _ _ _ => rfl

theorem WriteStep.eq_of_ctrl {s t : State} {v : Word} (h : WriteStep s v .ctrl t) (hclk : clkUart s = true) :
    t = { s with ctrl := ctrlOf s.cfg v } := by
  cases h with
  | gated _ hgated => exact absurd (hclk.symm.trans hgated) Bool.noConfusion
  | ctrl _ _ _ => rfl

theorem WriteStep.clken_eq {s t : State} {v : Word} (h : WriteStep s v .clken t) : t.clken = v := by
  cases h with
  | gated _ hgated => cases hgated
  | clken _ => rfl

end Sys2Proof.Machine
end

section
/-! The words that registers with open bits read as (00_scope.md R16, 10_state.md R26, R29, R30), bit by bit. -/

namespace Sys2Proof.Machine

/-- A bit of the mask is known. -/
theorem getLsbD_mergeAny_of_mask {mask : Word} {i : Nat} (h : mask.getLsbD i = true) (known any : Word) :
    (mergeAny mask known any).getLsbD i = known.getLsbD i := by
  simp [mergeAny, h]

theorem getLsbD_lowMask (n i : Nat) : (lowMask n).getLsbD i = decide (i < 32 ∧ i < n) := by
  simp [lowMask, BitVec.getLsbD_ofNat, Nat.testBit_two_pow_sub_one]

theorem bit_eq_twoPow (i : Nat) : bit i = BitVec.twoPow 32 i := (BitVec.twoPow_eq 32 i).symm

theorem getLsbD_bit (i j : Nat) : (bit i).getLsbD j = decide (i < 32 ∧ j = i) := by
  simp [bit_eq_twoPow, BitVec.getLsbD_twoPow, eq_comm]

/-- The bit at `i` alone of a word. -/
theorem bitIf_getLsbD (v : Word) (i : Nat) : bitIf i (v.getLsbD i) = v &&& bit i := by
  rw [bitIf, bit_eq_twoPow, BitVec.and_twoPow]
  rfl

/-- `OUT` reads back in its sixteen low bits (R26). -/
theorem outWord_extract (s : State) (any : Word) : (outWord s any).extractLsb' 0 16 = s.out := by
  ext i hi
  have hi32 : i < 32 := by omega
  have hmask : (lowMask 16).getLsbD i = true := by rw [getLsbD_lowMask]; exact decide_eq_true ⟨hi32, hi⟩
  have hbit : (outWord s any).getLsbD i = (s.out.setWidth 32).getLsbD i := getLsbD_mergeAny_of_mask hmask _ any
  rw [BitVec.getElem_extractLsb', Nat.zero_add, hbit, BitVec.getLsbD_setWidth, BitVec.getLsbD_eq_getElem hi,
    decide_eq_true hi32, Bool.true_and]

theorem getLsbD_baudWord {s : State} {i : Nat} (h : i < s.cfg.baudWidth) (any : Word) :
    (baudWord s any).getLsbD i = s.baud.getLsbD i := by
  rcases Nat.lt_or_ge i 32 with hi | hi
  · have hmask : (lowMask s.cfg.baudWidth).getLsbD i = true := by
      rw [getLsbD_lowMask]; exact decide_eq_true ⟨hi, h⟩
    exact getLsbD_mergeAny_of_mask hmask s.baud any
  · rw [BitVec.getLsbD_of_ge _ _ hi, BitVec.getLsbD_of_ge _ _ hi]

theorem getLsbD_ctrlEn (c : Cfg) (i : Nat) :
    (ctrlEn c).getLsbD i = true ↔ i = c.ctrlRe.val ∨ i = c.ctrlTe.val ∨ i = c.ctrlUe.val := by
  simp [ctrlEn, getLsbD_bit, or_assoc]

/-- The enables that a written word sets are that word without its other bits (R30). -/
theorem ctrlWord_of_ctrlOf {s : State} {v : Word} (h : s.ctrl = ctrlOf s.cfg v) (any : Word) :
    ctrlWord s any = mergeAny (ctrlEn s.cfg) (v &&& ctrlEn s.cfg) any := by
  simp only [ctrlWord, h, ctrlOf, bitIf_getLsbD, ctrlEn, BitVec.and_or_distrib_left]

theorem getLsbD_ctrlWord_of_ctrlOf {s : State} {v : Word} {i : Nat} (h : s.ctrl = ctrlOf s.cfg v)
    (hi : i = s.cfg.ctrlRe.val ∨ i = s.cfg.ctrlTe.val ∨ i = s.cfg.ctrlUe.val) (any : Word) :
    (ctrlWord s any).getLsbD i = v.getLsbD i := by
  have hmask : (ctrlEn s.cfg).getLsbD i = true := (getLsbD_ctrlEn s.cfg i).mpr hi
  rw [ctrlWord_of_ctrlOf h, getLsbD_mergeAny_of_mask hmask, BitVec.getLsbD_and, hmask, Bool.and_true]

end Sys2Proof.Machine
end

section
/-! A read right after an accepted write of a storage register (20_memory.md R72). -/

namespace Sys2Proof.Machine

theorem modeLo_read_after_write {s : State} (v : Word) (hs : s.Runs) (hclk : clkGpio s = true) :
    ∃ t u, exec (.wrModeLo v) s = .next t ∧ exec .rdModeLo t = .next u ∧ u.me.ret = v := by
  obtain ⟨hwrite, u, hread, hret⟩ := exec_write_then_read hs (busWrite_modeLo hclk v) (busRead_modeLo hclk)
  exact ⟨_, u, hwrite, hread, hret⟩

theorem modeHi_read_after_write {s : State} (v : Word) (hs : s.Runs) (hclk : clkGpio s = true) :
    ∃ t u, exec (.wrModeHi v) s = .next t ∧ exec .rdModeHi t = .next u ∧ u.me.ret = v := by
  obtain ⟨hwrite, u, hread, hret⟩ := exec_write_then_read hs (busWrite_modeHi hclk v) (busRead_modeHi hclk)
  exact ⟨_, u, hwrite, hread, hret⟩

theorem out_read_after_write {s : State} (v : Word) (hs : s.Runs) (hclk : clkGpio s = true) :
    ∃ t u, exec (.wrOut v) s = .next t ∧ exec .rdOut t = .next u ∧
      u.me.ret.extractLsb' 0 16 = v.extractLsb' 0 16 := by
  obtain ⟨hwrite, u, hread, hret⟩ := exec_write_then_read hs (busWrite_out hclk v) (busRead_out hclk)
  exact ⟨_, u, hwrite, hread, by rw [hret, outWord_extract]; rfl⟩

theorem baud_read_after_write {s t : State} {v : Word} (hs : s.Runs) (hclk : clkUart s = true)
    (h : exec (.wrBaud v) s = .next t) :
    ∃ u, exec .rdBaud t = .next u ∧ ∀ i, i < s.cfg.baudWidth → u.me.ret.getLsbD i = v.getLsbD i := by
  obtain ⟨w, hw, rfl⟩ := exec_writeOf_eq_next (x := .baud) h
  obtain rfl := (busWrite_cases hw).eq_of_baud hclk
  obtain ⟨-, u, hread, hret⟩ := exec_write_then_read hs hw (busRead_baud hclk rfl)
  refine ⟨u, hread, fun i hi => ?_⟩
  rw [hret]
  refine getLsbD_baudWord ?_ _
  exact hi

theorem ctrl_read_after_write {s t : State} {v : Word} (hs : s.Runs) (hclk : clkUart s = true)
    (h : exec (.wrCtrl v) s = .next t) :
    ∃ u, exec .rdCtrl t = .next u ∧
      ∀ i, i = s.cfg.ctrlRe.val ∨ i = s.cfg.ctrlTe.val ∨ i = s.cfg.ctrlUe.val → u.me.ret.getLsbD i = v.getLsbD i := by
  obtain ⟨w, hw, rfl⟩ := exec_writeOf_eq_next (x := .ctrl) h
  obtain rfl := (busWrite_cases hw).eq_of_ctrl hclk
  obtain ⟨-, u, hread, hret⟩ := exec_write_then_read hs hw (busRead_ctrl hclk)
  refine ⟨u, hread, fun i hi => ?_⟩
  rw [hret]
  refine getLsbD_ctrlWord_of_ctrlOf rfl ?_ _
  exact hi

theorem clken_read_after_write {s t : State} {v : Word} (hs : s.Runs) (h : exec (.wrClken v) s = .next t) :
    ∃ u, exec .rdClken t = .next u ∧ u.me.ret = v := by
  obtain ⟨w, hw, rfl⟩ := exec_writeOf_eq_next (x := .clken) h
  obtain ⟨-, u, hread, hret⟩ := exec_write_then_read hs hw (busRead_clken w.finish)
  exact ⟨u, hread, hret.trans (busWrite_cases hw).clken_eq⟩

/-- Settles O32: register by register; what a word of open bits reads as is known in the bits that are stored. -/
theorem readAfterWrite : Obligations.ReadAfterWrite := by
  intro s v hs _
  refine ⟨fun hclk => ⟨?modeLo, ?modeHi, ?out⟩, ?baud, ?ctrl, ?clken⟩
  case modeLo => exact modeLo_read_after_write v hs hclk
  case modeHi => exact modeHi_read_after_write v hs hclk
  case out => exact out_read_after_write v hs hclk
  case baud => exact fun t hclk h => baud_read_after_write hs hclk h
  case ctrl => exact fun t hclk h => ctrl_read_after_write hs hclk h
  case clken => exact fun t h => clken_read_after_write hs h

end Sys2Proof.Machine
end

section
/-! One action of a driver sequence (10_state.md R39, R40): a read keeps its word in `t`, the last action ends the
operation. -/

namespace Sys2Proof.Machine

/-- A master past a read of its sequence: at the next action, with the word in `t` (R39). -/
def Master.afterRead (m : Master) (v : Word) : Master := { m with label := m.label + 1, tmp := { m.tmp with t := v } }

@[simp] theorem Master.afterRead_label (m : Master) (v : Word) : (m.afterRead v).label = m.label + 1 := rfl
@[simp] theorem Master.afterRead_t (m : Master) (v : Word) : (m.afterRead v).tmp.t = v := rfl

/-- The end of an operation keeps nothing of its temporaries. -/
@[simp] theorem Master.afterRead_finish (m : Master) (v : Word) : (m.afterRead v).finish = m.finish := rfl

theorem Master.proceed_next_of_lt {m : Master} {len : Nat} (h : m.label + 1 < len) :
    m.proceed len .next = { m with label := m.label + 1 } := if_pos h

theorem Master.proceed_next_of_eq {m : Master} {len : Nat} (h : m.label + 1 = len) : m.proceed len .next = m.finish :=
  if_neg (Nat.not_lt.mpr h.ge)

theorem runSeq_of_label {acts : List Act} {a : Act} {s : State} (h : acts[s.me.label]? = some a) :
    runSeq acts s = runAct acts.length a s := by
  simp [runSeq, h]

theorem runAct_rd {len : Nat} {x : Reg} {s t : State} {v : Word} (hs : s.Runs) (hlen : s.me.label + 1 < len)
    (h : busRead x s = .ok (v, t)) : runAct len (.rd x) s = .next (t.setMe (s.me.afterRead v)) := by
  have hstep := busRead_cases h
  have hme : (t.setT v).me = { s.me with tmp := { s.me.tmp with t := v } } := by
    rw [State.setT_eq, State.me_setMe _ _ (hstep.runs hs), hstep.me_eq]
  have hrec : (t.setT v).me.proceed len .next = s.me.afterRead v := by
    rw [hme]; exact Master.proceed_next_of_lt (by exact hlen)
  simp only [runAct, h, State.proceed_eq, hrec]
  rw [State.setT_eq, State.setMe_setMe]

/-- A write that is the last action of its sequence. -/
theorem runAct_wr_last {len : Nat} {x : Reg} {f : Temps → Word} {s t : State} (hlen : s.me.label + 1 = len)
    (h : busWrite x (f s.me.tmp) s = .ok t) : runAct len (.wr x f) s = .next t.finish := by
  have hrec : t.me.proceed len .next = t.me.finish := by
    rw [(busWrite_cases h).me_eq]; exact Master.proceed_next_of_eq hlen
  simp only [runAct, h, State.proceed_eq, hrec, State.finish_eq]

/-- Two steps of an operation on end. -/
theorem execN_two {i : Instr} {s t u : State} (h1 : exec i s = .next t) (h2 : exec i t = .next u) :
    execN i 2 s = .next u := by
  simp [execN, h1, h2]

end Sys2Proof.Machine
end

section
/-! The records of several masters (10_state.md R20): what one of them writes to its own leaves the others' alone. -/

namespace Sys2Proof.Machine

theorem State.me_runAs_setMe_of_ne {s : State} {k : Nat} (m : Master) (h : k ≠ s.cur) :
    ((s.setMe m).runAs k).me = (s.runAs k).me := by
  simp [State.me, List.getD_eq_getElem?_getD, h.symm]

theorem State.atCall_runAs_setMe_of_ne {s : State} {k : Nat} (m : Master) (h : k ≠ s.cur) (hk : (s.runAs k).AtCall) :
    ((s.setMe m).runAs k).AtCall := by
  rwa [State.AtCall, State.me_runAs_setMe_of_ne m h, State.Runs, State.runAs_masters, State.setMe_masters_length]

/-- The end of an operation whose master's record was just written. -/
theorem State.finish_setMe {s : State} (m : Master) (hs : s.Runs) : (s.setMe m).finish = s.setMe m.finish := by
  rw [State.finish_eq, State.me_setMe _ _ hs, State.setMe_setMe]

end Sys2Proof.Machine
end

section
/-! The two steps of `toggle` with the bank clocked (43_gpio.md R173), and two masters that toggle (20_memory.md R74,
43_gpio.md R178). -/

namespace Sys2Proof.Machine

/-- The bit of a pin in the sixteen that `OUT` stores (30_encoding.md R98). -/
theorem pbit_extract (p : Nat) : (pbit p).extractLsb' 0 16 = 1#16 <<< p := by
  rw [pbit, bit_eq_twoPow, ← BitVec.twoPow_eq]
  ext i hi
  have hi32 : i < 32 := by omega
  by_cases h : p = i
  · simp [h, hi32]
  · simp [h, Ne.symm h]

theorem exec_toggle {p : Nat} (hp : p < 16) (s : State) : exec (.toggle p) s = runSeq (toggleActs p) s :=
  if_pos (decide_eq_true hp)

/-- The state after the first step: the word of `OUT` is in the master's `t`, and `OUT` is as it was. -/
def State.afterToggleRead (s : State) : State := s.afterDraw.setMe (s.me.afterRead (outWord s s.anyWord))

/-- Another content of `OUT`. -/
def State.withOut (s : State) (o : BitVec 16) : State := { s with out := o }

@[simp] theorem State.withOut_out (s : State) (o : BitVec 16) : (s.withOut o).out = o := rfl
@[simp] theorem clkGpio_withOut (s : State) (o : BitVec 16) : clkGpio (s.withOut o) = clkGpio s := rfl
@[simp] theorem clkGpio_finish (s : State) : clkGpio s.finish = clkGpio s := rfl
@[simp] theorem State.afterToggleRead_out (s : State) : s.afterToggleRead.out = s.out := rfl
@[simp] theorem clkGpio_afterToggleRead (s : State) : clkGpio s.afterToggleRead = clkGpio s := rfl

/-- Master `k` stands before its write, with `o` in the low half of the word it has read. -/
def State.HoldsOut (s : State) (k : Nat) (o : BitVec 16) : Prop :=
  (s.runAs k).me.label = 1 ∧ (s.runAs k).me.tmp.t.extractLsb' 0 16 = o

theorem toggle_reads {s : State} {p : Nat} (hs : s.AtCall) (hclk : clkGpio s = true) (hp : p < 16) :
    exec (.toggle p) s = .next s.afterToggleRead := by
  obtain ⟨hruns, hlabel⟩ := hs
  rw [exec_toggle hp, runSeq_of_label (a := .rd .out) (by rw [hlabel]; rfl)]
  exact runAct_rd hruns (by rw [hlabel]; exact Nat.lt_add_one 1) (busRead_out hclk)

theorem State.holdsOut_afterToggleRead {s : State} {k : Nat} (hs : (s.runAs k).AtCall) :
    (s.runAs k).afterToggleRead.HoldsOut k s.out := by
  obtain ⟨hruns, hlabel⟩ := hs
  have hme : ((s.runAs k).afterToggleRead.runAs k).me = (s.runAs k).me.afterRead (outWord s s.anyWord) :=
    State.me_setMe (s.runAs k).afterDraw _ hruns
  rw [State.HoldsOut, hme, Master.afterRead_label, Master.afterRead_t, hlabel]
  exact ⟨rfl, outWord_extract s s.anyWord⟩

/-- The second step: whatever `OUT` holds by now, it becomes what was read, with the pin's bit flipped. -/
theorem toggle_writes {s : State} {k p : Nat} {o : BitVec 16} (hs : s.HoldsOut k o) (hclk : clkGpio s = true)
    (hp : p < 16) : exec (.toggle p) (s.runAs k) = .next ((s.runAs k).finish.withOut (o ^^^ (1#16 <<< p))) := by
  obtain ⟨hlabel, hword⟩ := hs
  have hwrite := busWrite_out (s := s.runAs k) hclk ((s.runAs k).me.tmp.t ^^^ pbit p)
  rw [BitVec.extractLsb'_xor, pbit_extract, hword] at hwrite
  rw [exec_toggle hp, runSeq_of_label (a := .wr .out fun tmp => tmp.t ^^^ pbit p) (by rw [hlabel]; rfl)]
  exact runAct_wr_last (f := fun tmp => tmp.t ^^^ pbit p) (len := 2) (by rw [hlabel]) hwrite

/-- A whole `toggle` with nothing between its steps. -/
theorem toggle_flips {s : State} {p : Nat} (hs : s.AtCall) (hclk : clkGpio s = true) (hp : p < 16) :
    execN (.toggle p) 2 s = .next (s.afterDraw.finish.withOut (s.out ^^^ (1#16 <<< p))) := by
  have hwrite := toggle_writes (State.holdsOut_afterToggleRead (s := s) (k := s.cur) hs) hclk hp
  have hruns : s.afterDraw.Runs := hs.1
  have hfinish : s.afterToggleRead.finish = s.afterDraw.finish := by
    rw [State.afterToggleRead, State.finish_setMe _ hruns, Master.afterRead_finish, State.finish_eq, State.afterDraw_me]
  rw [← hfinish]
  exact execN_two (toggle_reads hs hclk hp) hwrite

/-! What the running master does to its own record does not reach another one. -/

section
variable {s : State} {k : Nat} {o : BitVec 16}

theorem State.HoldsOut.runAs (hk : s.HoldsOut k o) (j : Nat) : (s.runAs j).HoldsOut k o := hk

theorem State.HoldsOut.setMe_of_ne (hk : s.HoldsOut k o) (m : Master) (h : k ≠ s.cur) : (s.setMe m).HoldsOut k o := by
  rwa [State.HoldsOut, State.me_runAs_setMe_of_ne m h]

theorem State.HoldsOut.afterToggleRead_of_ne (hk : s.HoldsOut k o) (h : k ≠ s.cur) : s.afterToggleRead.HoldsOut k o :=
  State.HoldsOut.setMe_of_ne (s := s.afterDraw) hk _ h

theorem State.HoldsOut.write_of_ne (hk : s.HoldsOut k o) (h : k ≠ s.cur) (v : BitVec 16) :
    (s.finish.withOut v).HoldsOut k o :=
  hk.setMe_of_ne s.me.finish h

theorem State.atCall_afterToggleRead_of_ne (hk : (s.runAs k).AtCall) (h : k ≠ s.cur) :
    (s.afterToggleRead.runAs k).AtCall :=
  State.atCall_runAs_setMe_of_ne (s := s.afterDraw) _ h hk

theorem State.atCall_write_of_ne (hk : (s.runAs k).AtCall) (h : k ≠ s.cur) (v : BitVec 16) :
    ((s.finish.withOut v).runAs k).AtCall :=
  State.atCall_runAs_setMe_of_ne s.me.finish h hk

end

/-- The second master reads before the first one writes, so it writes the first one's bit back as it was. -/
theorem toggles_interleaved {s : State} {a b p q : Nat} (hab : a ≠ b) (ha : (s.runAs a).AtCall)
    (hb : (s.runAs b).AtCall) (hclk : clkGpio s = true) (hp : p < 16) (hq : q < 16) :
    ∃ s₁ s₂ s₃ s₄, exec (.toggle p) (s.runAs a) = .next s₁ ∧ exec (.toggle q) (s₁.runAs b) = .next s₂ ∧
      exec (.toggle p) (s₂.runAs a) = .next s₃ ∧ exec (.toggle q) (s₃.runAs b) = .next s₄ ∧
      s₄.out = s.out ^^^ (1#16 <<< q) := by
  have ha₁ := State.holdsOut_afterToggleRead ha
  have hb₁ := State.atCall_afterToggleRead_of_ne (s := s.runAs a) hb hab.symm
  have ha₂ := (ha₁.runAs b).afterToggleRead_of_ne hab
  have hb₂ := State.holdsOut_afterToggleRead hb₁
  have hb₃ := (hb₂.runAs a).write_of_ne hab.symm (s.out ^^^ (1#16 <<< p))
  exact ⟨_, _, _, _, toggle_reads ha hclk hp, toggle_reads hb₁ (by simpa using hclk) hq,
    toggle_writes ha₂ (by simpa using hclk) hp, toggle_writes hb₃ (by simpa using hclk) hq, by simp⟩

/-- The second master reads what the first one wrote. -/
theorem toggles_sequential {s : State} {a b p q : Nat} (hab : a ≠ b) (ha : (s.runAs a).AtCall)
    (hb : (s.runAs b).AtCall) (hclk : clkGpio s = true) (hp : p < 16) (hq : q < 16) :
    ∃ t₁ t₂, execN (.toggle p) 2 (s.runAs a) = .next t₁ ∧ execN (.toggle q) 2 (t₁.runAs b) = .next t₂ ∧
      t₂.out = s.out ^^^ (1#16 <<< p) ^^^ (1#16 <<< q) := by
  have hb₁ := State.atCall_write_of_ne (s := (s.runAs a).afterDraw) hb hab.symm (s.out ^^^ (1#16 <<< p))
  exact ⟨_, _, toggle_flips ha hclk hp, toggle_flips hb₁ (by simpa using hclk) hq, by simp⟩

/-- Settles O47: whether the second master reads before or after the first one's write decides which word it flips its
bit of. -/
theorem interleavedTogglesLoseOne : Obligations.InterleavedTogglesLoseOne := by
  intro s a b p q hab _ _ ha hb hclk hp hq _
  exact ⟨toggles_interleaved hab ha hb hclk hp hq, toggles_sequential hab ha hb hclk hp hq⟩

end Sys2Proof.Machine
end

section
/-! The fields of a transaction word (30_encoding.md R91): the operation code in bits 35:32 and the data in bits 31:0.
Every word is put together of a direction, a register and a data field, the decoder reads them off, and the encoder
writes a word exactly for a bus transaction (R93, R104). -/

namespace Sys2Proof

/-- The bits of the operation code, bits 35:32 (R93, R104). -/
def opcodeMask : TxnWord := 0xF00000000#36

theorem opcodeMask_eq_append : opcodeMask = 0xF#4 ++ 0#32 := rfl

theorem regOfId_regId (r : Reg) : regOfId (regId r) = r := by cases r <;> rfl

/-- Every operation code is a direction and a register, because all eight ids are used (R92). -/
theorem opcode_eq_append (o : BitVec 4) :
    o = BitVec.ofBool (o.getLsbD 3) ++ regId (regOfId (o.extractLsb' 0 3)) := by
  revert o
  decide

section
variable (w : Bool) (r : Reg) (v : Word)

theorem txnWord_write : (txnWord w r v).getLsbD 35 = w := by
  simp only [txnWord, BitVec.getLsbD_append]
  cases w <;> rfl

theorem txnWord_reg : (txnWord w r v).extractLsb' 32 3 = regId r := by
  rw [txnWord, BitVec.extractLsb'_append_eq_of_le le_rfl]
  exact BitVec.extractLsb'_append_eq_right

theorem txnWord_data : (txnWord w r v).extractLsb' 0 32 = v := BitVec.extractLsb'_append_eq_right

theorem txnWord_and_opcodeMask : txnWord w r v &&& opcodeMask = txnWord w r 0 := by
  rw [txnWord, opcodeMask_eq_append, BitVec.and_append, BitVec.and_zero]
  exact congrArg (· ++ 0#32) BitVec.and_allOnes

/-- The decoder reads the fields off the word. -/
theorem decode_txnWord : decode (txnWord w r v) = if w then writeOf r v else readOf r := by
  simp only [decode, txnWord_write, txnWord_reg, txnWord_data, regOfId_regId]

end

theorem txnWord_opcode_inj {w w' : Bool} {r r' : Reg} {v v' : Word} (h : txnWord w r v = txnWord w' r' v') :
    w = w' ∧ r = r' := by
  have hw := congrArg (·.getLsbD 35) h
  have hr := congrArg (regOfId <| ·.extractLsb' 32 3) h
  simp only [txnWord_write] at hw
  simp only [txnWord_reg, regOfId_regId] at hr
  exact ⟨hw, hr⟩

/-- There is no other word: cut at bit 32, a word is an operation code and a data field. -/
theorem exists_eq_txnWord (x : TxnWord) : ∃ w r v, x = txnWord w r v := by
  have hcut : x = x.extractLsb' 32 4 ++ x.extractLsb' 0 32 :=
    (BitVec.extractLsb'_append_extractLsb' (w := 4) (len := 32)).symm
  rw [opcode_eq_append (x.extractLsb' 32 4)] at hcut
  exact ⟨_, _, _, hcut⟩

theorem encode_readOf (r : Reg) : encode (readOf r) = some (txnWord false r 0) := by cases r <;> rfl

theorem encode_writeOf (r : Reg) (v : Word) : encode (writeOf r v) = some (txnWord true r v) := by cases r <;> rfl

/-- What has a word is the read or the write of a register (R104), and no driver operation (R94). -/
theorem encode_eq_some {i : Instr} {x : TxnWord} (h : encode i = some x) :
    (∃ r, i = readOf r) ∨ ∃ r v, i = writeOf r v := by
  cases i with
  | rdModeLo => exact .inl ⟨.modeLo, rfl⟩
  | wrModeLo v => exact .inr ⟨.modeLo, v, rfl⟩
  | rdModeHi => exact .inl ⟨.modeHi, rfl⟩
  | wrModeHi v => exact .inr ⟨.modeHi, v, rfl⟩
  | rdOut => exact .inl ⟨.out, rfl⟩
  | wrOut v => exact .inr ⟨.out, v, rfl⟩
  | rdStat => exact .inl ⟨.stat, rfl⟩
  | wrStat v => exact .inr ⟨.stat, v, rfl⟩
  | rdData => exact .inl ⟨.data, rfl⟩
  | wrData v => exact .inr ⟨.data, v, rfl⟩
  | rdBaud => exact .inl ⟨.baud, rfl⟩
  | wrBaud v => exact .inr ⟨.baud, v, rfl⟩
  | rdCtrl => exact .inl ⟨.ctrl, rfl⟩
  | wrCtrl v => exact .inr ⟨.ctrl, v, rfl⟩
  | rdClken => exact .inl ⟨.clken, rfl⟩
  | wrClken v => exact .inr ⟨.clken, v, rfl⟩
  | enableClock _ | setPinMode _ _ | toggle _ | write _ _ | uartInit _ _ | sendByte _ | recvByte | sendString _
  | sendUnsignedDecimal _ | busyWait _ => cases h

/-- Settles O1: what has a word is a read or a write of a register, and the decoder reads its fields off that word. -/
theorem decodeOfEncode : Obligations.DecodeOfEncode := by
  intro i x h
  rcases encode_eq_some h with ⟨r, rfl⟩ | ⟨r, v, rfl⟩
  · obtain rfl : txnWord false r 0 = x := Option.some.inj ((encode_readOf r).symm.trans h)
    exact decode_txnWord false r 0
  · obtain rfl : txnWord true r v = x := Option.some.inj ((encode_writeOf r v).symm.trans h)
    exact decode_txnWord true r v

/-- Settles O2: of a word's three fields only the data of a read is lost. -/
theorem encodeOfDecode : Obligations.EncodeOfDecode := by
  intro x
  obtain ⟨w, r, v, rfl⟩ := exists_eq_txnWord x
  rw [decode_txnWord, txnWord_write]
  cases w with
  | false => exact (encode_readOf r).trans (congrArg some (txnWord_and_opcodeMask false r v).symm)
  | true => exact encode_writeOf r v

/-- A word whose masked bits are those of a row of the opcode map is an instruction of that row (R93, R104). -/
theorem decode_of_match {x : TxnWord} {w : Bool} {r : Reg} (h : x &&& opcodeMask = txnWord w r 0) :
    decode x = if w then writeOf r (x.setWidth 32) else readOf r := by
  obtain ⟨w', r', v, rfl⟩ := exists_eq_txnWord x
  obtain ⟨rfl, rfl⟩ := txnWord_opcode_inj ((txnWord_and_opcodeMask w' r' v).symm.trans h)
  rw [decode_txnWord, txnWord, BitVec.setWidth_append_eq_right]

/-- Settles O3: each `match` of the opcode map is the word of its direction and register with no data. -/
theorem decodeByMaskAndMatch : Obligations.DecodeByMaskAndMatch := by
  intro x
  have hread (r : Reg) (h : x &&& opcodeMask = txnWord false r 0) : decode x = readOf r := decode_of_match h
  have hwrite (r : Reg) (h : x &&& opcodeMask = txnWord true r 0) : decode x = writeOf r (x.setWidth 32) :=
    decode_of_match h
  exact ⟨hread .modeLo, hwrite .modeLo, hread .modeHi, hwrite .modeHi, hread .out, hwrite .out, hread .stat,
    hwrite .stat, hread .data, hwrite .data, hread .baud, hwrite .baud, hread .ctrl, hwrite .ctrl, hread .clken,
    hwrite .clken⟩

theorem decodeNat_tooWide {n : Nat} (h : 2 ^ 36 ≤ n) : decodeNat n = .error .tooWide := if_neg (Nat.not_lt.mpr h)

/-- Settles O4: the fields of the six words, of which the read of `MODE_LO` carries data that the decoder ignores. -/
theorem decodeWrittenWords : Obligations.DecodeWrittenWords :=
  ⟨decode_txnWord false .modeLo 0xDEADBEEF, decode_txnWord true .modeHi 0x44244444, decode_txnWord true .out 0x2000,
    decode_txnWord true .data 0x61, decode_txnWord true .baud 69, decode_txnWord false .clken 0,
    decodeNat_tooWide le_rfl⟩

end Sys2Proof
end

section
/-! Field insertion into a mode register (30_encoding.md R95 to R97), bit by bit. -/

namespace Sys2Proof.Machine

/-- The field of every pin lies within its register. -/
theorem sh_le (p : Nat) : sh p + 3 ≤ 31 := by unfold sh; omega

/-- The fields of two pins of one register do not overlap (R95). -/
theorem sh_disjoint {p q : Nat} (hp : p < 16) (hq : q < 16) (hreg : mreg q = mreg p) (hne : q ≠ p) :
    sh q + 3 < sh p ∨ sh p + 3 < sh q := by
  have hhalf : q < 8 ↔ p < 8 := by
    by_cases hp8 : p < 8 <;> by_cases hq8 : q < 8 <;> simp [mreg, hp8, hq8] at hreg ⊢
  unfold sh
  omega

/-- Bit `i` lies in the field of pin `p`. -/
def InField (p i : Nat) : Prop := sh p ≤ i ∧ i ≤ sh p + 3

theorem not_inField_iff (p i : Nat) : ¬ InField p i ↔ i < sh p ∨ sh p + 3 < i := by unfold InField; omega

theorem InField.not_inField {p q i : Nat} (h : InField p i) (hd : sh q + 3 < sh p ∨ sh p + 3 < sh q) :
    ¬ InField q i := by
  unfold InField at h ⊢
  omega

section
variable {p i : Nat}

/-- Four bits put at a pin's place (R97): the mask is `0xF` there, the code that of the mode. -/
theorem getLsbD_placed (x : BitVec 4) (h : InField p i) :
    (x.setWidth 32 <<< sh p).getLsbD i = x.getLsbD (i - sh p) := by
  obtain ⟨hlo, hhi⟩ := h
  have hsh := sh_le p
  have hi : i < 32 := by omega
  simp [hi, hlo]

theorem getLsbD_placed_outside (x : BitVec 4) (h : ¬ InField p i) : (x.setWidth 32 <<< sh p).getLsbD i = false := by
  rcases (not_inField_iff p i).mp h with hlo | hhi
  · simp [hlo]
  · have hx : x.getLsbD (i - sh p) = false := BitVec.getLsbD_of_ge x _ (by omega)
    simp [hx]

theorem fmask_eq (p : Nat) : fmask p = (0xF#4).setWidth 32 <<< sh p := rfl

theorem getLsbD_fmask (h : InField p i) : (fmask p).getLsbD i = true := by
  obtain ⟨hlo, hhi⟩ := h
  rw [fmask_eq, getLsbD_placed _ ⟨hlo, hhi⟩]
  exact BitVec.getLsbD_allOnes.trans (decide_eq_true (by omega))

theorem getLsbD_fmask_outside (h : ¬ InField p i) : (fmask p).getLsbD i = false := getLsbD_placed_outside 0xF#4 h

/-- Within the field, a bit of the mode code. -/
theorem getLsbD_ins (c : Cfg) (t : Word) (m : PinMode) (h : InField p i) :
    (ins c t p m).getLsbD i = (enc c m).getLsbD (i - sh p) := by
  simp only [ins, codeAt, BitVec.getLsbD_or, BitVec.getLsbD_and, BitVec.getLsbD_not, getLsbD_fmask h,
    getLsbD_placed (enc c m) h, Bool.not_true, Bool.and_false, Bool.false_or]

/-- Outside the field, a bit of the old word. -/
theorem getLsbD_ins_outside (c : Cfg) (t : Word) (m : PinMode) (h : ¬ InField p i) :
    (ins c t p m).getLsbD i = t.getLsbD i := by
  rcases Nat.lt_or_ge i 32 with hi | hi
  · simp only [ins, codeAt, BitVec.getLsbD_or, BitVec.getLsbD_and, BitVec.getLsbD_not, getLsbD_fmask_outside h,
      getLsbD_placed_outside (enc c m) h, decide_eq_true hi, Bool.not_false, Bool.and_true, Bool.or_false]
  · rw [BitVec.getLsbD_of_ge _ _ hi, BitVec.getLsbD_of_ge _ _ hi]

end

section
variable (c : Cfg) (t : Word) (p : Nat) (m n : PinMode)

theorem extract_ins : (ins c t p m).extractLsb' (sh p) 4 = enc c m := by
  ext i hi
  have hin : InField p (sh p + i) := ⟨by omega, by omega⟩
  rw [BitVec.getElem_extractLsb', getLsbD_ins c t m hin, Nat.add_sub_cancel_left, BitVec.getLsbD_eq_getElem]

theorem ins_ins_same : ins c (ins c t p m) p n = ins c t p n := by
  refine BitVec.eq_of_getLsbD_eq fun i _ => ?_
  by_cases hi : InField p i
  · rw [getLsbD_ins _ _ _ hi, getLsbD_ins _ _ _ hi]
  · rw [getLsbD_ins_outside _ _ _ hi, getLsbD_ins_outside _ _ _ hi, getLsbD_ins_outside _ _ _ hi]

/-- A bit lies in the field of the first pin, of the second, or of neither. -/
theorem ins_comm {q : Nat} (hd : sh q + 3 < sh p ∨ sh p + 3 < sh q) :
    ins c (ins c t p m) q n = ins c (ins c t q n) p m := by
  refine BitVec.eq_of_getLsbD_eq fun i _ => ?_
  by_cases hip : InField p i
  · have hiq : ¬ InField q i := hip.not_inField hd
    rw [getLsbD_ins_outside _ _ _ hiq, getLsbD_ins _ _ _ hip, getLsbD_ins _ _ _ hip]
  · by_cases hiq : InField q i
    · rw [getLsbD_ins _ _ _ hiq, getLsbD_ins_outside _ _ _ hip, getLsbD_ins _ _ _ hiq]
    · rw [getLsbD_ins_outside _ _ _ hiq, getLsbD_ins_outside _ _ _ hip, getLsbD_ins_outside _ _ _ hip,
        getLsbD_ins_outside _ _ _ hiq]

end

/-- Settles O33: the laws are read off the bits of the inserted word, and the fields of two pins are apart. -/
theorem fieldInsertLaws : Obligations.FieldInsertLaws := by
  intro c t p m n hp
  exact ⟨sh_le p, rfl, extract_ins c t p m, fun i hi => getLsbD_ins_outside c t m ((not_inField_iff p i).mpr hi),
    ins_ins_same c t p m n, fun q hq hreg hne => ins_comm c t p m n (sh_disjoint hp hq hreg hne)⟩

end Sys2Proof.Machine
end

section
/-! Calls with an operand outside its type (30_encoding.md R94, 44_uart.md R186). -/

namespace Sys2Proof.Machine

/-- The check comes before the first action, so it does not depend on the state (60_exceptions.md R221). -/
theorem exec_of_not_wellFormed (i : Instr) (h : i.wellFormed = false) (s : State) :
    exec i s = .refused .illFormed := by
  have hrefused (r : Result) : ifWellFormed i r = .refused .illFormed := if_neg (ne_true_of_eq_false h)
  cases i with
  | setPinMode _ _ | toggle _ | write _ _ | uartInit _ _ | sendString _ => exact hrefused _
  | _ => cases h

theorem pinInRange_eq_false {p : Nat} (h : 16 ≤ p) : pinInRange p = false := decide_eq_false (Nat.not_lt.mpr h)

theorem noNul_eq_false {str : List Byte} (h : 0x00#8 ∈ str) : noNul str = false :=
  List.all_eq_false.mpr ⟨0x00#8, h, by decide⟩

/-- Settles O45: the check of the operand fails. -/
theorem illFormedCallRefused : Obligations.IllFormedCallRefused := by
  intro s
  refine ⟨fun p m level hp => ?pin, fun clk => ?baud, fun str hstr => ?nul⟩
  case pin =>
    have hpin : pinInRange p = false := pinInRange_eq_false hp
    exact ⟨exec_of_not_wellFormed (.setPinMode p m) hpin s, exec_of_not_wellFormed (.toggle p) hpin s,
      exec_of_not_wellFormed (.write p level) hpin s⟩
  case baud => exact exec_of_not_wellFormed (.uartInit 0 clk) rfl s
  case nul => exact exec_of_not_wellFormed (.sendString str) (noNul_eq_false hstr) s

end Sys2Proof.Machine
end

section
/-! Every bus transaction, by the order of its checks (40_bus_transactions.md R136): the value, the gating, then the
effect of the register. -/

namespace Sys2Proof.Machine

theorem exec_readOf_of_error {x : Reg} {s : State} {e : Refusal} (h : busRead x s = .error e) :
    exec (readOf x) s = .refused e := by
  rw [exec_readOf, h]; rfl

theorem exec_writeOf_of_error {x : Reg} {s : State} {v : Word} {e : Refusal} (h : busWrite x v s = .error e) :
    exec (writeOf x v) s = .refused e := by
  rw [exec_writeOf, h]; rfl

/-- Whether a register admits a written value, whatever the state: the first check of R136 (30_encoding.md R106, and
R127 for `STAT`). -/
def valueOk (c : Cfg) (v : Word) : Reg → Bool
  | .modeLo | .modeHi | .out | .clken => true
  | .stat => false
  | .data => dataValueOk v
  | .baud => baudValueOk c v
  | .ctrl => ctrlValueOk c v

/-- A value without bits above the byte is a small one (R106). -/
theorem dataValueOk_iff {v : Word} : dataValueOk v = true ↔ v.toNat < 256 := by
  simp only [dataValueOk, beq_iff_eq, BitVec.toNat_eq, BitVec.extractLsb'_toNat, Nat.shiftRight_eq_div_pow,
    BitVec.ofNat_eq_ofNat, BitVec.toNat_ofNat]
  omega

theorem baudValueOk_eq_false {c : Cfg} {v : Word} (h : v = 0 ∨ 2 ^ c.baudWidth ≤ v.toNat) :
    baudValueOk c v = false := by
  rw [Bool.eq_false_iff, Ne, baudValueOk_iff]
  rintro ⟨hpos, hlt⟩
  rcases h with rfl | hle
  · exact absurd hpos (by decide)
  · omega

theorem ctrlValueOk_iff {c : Cfg} {v : Word} : ctrlValueOk c v = true ↔
    ∀ i, v.getLsbD i = true → i = c.ctrlRe.val ∨ i = c.ctrlTe.val ∨ i = c.ctrlUe.val := by
  rw [ctrlValueOk, beq_iff_eq]
  constructor
  · intro h i hi
    have hbit := congrArg (·.getLsbD i) h
    have hi32 := BitVec.lt_of_getLsbD hi
    rw [← getLsbD_ctrlEn]
    simpa [hi, hi32] using hbit
  · intro h
    refine BitVec.eq_of_getLsbD_eq fun i hi => ?_
    cases hv : v.getLsbD i with
    | false => simp [hv]
    | true => simp [(getLsbD_ctrlEn c i).mpr (h i hv)]

theorem ctrlValueOk_of_and {c : Cfg} {v : Word} (h : v &&& ~~~ctrlEn c = 0) : ctrlValueOk c v = true :=
  beq_iff_eq.mpr h

theorem txOn_eq_false_of_gated {s : State} (h : clkUart s = false) : txOn s = false := by simp [txOn, uartOn, h]

theorem rxOn_eq_false_of_gated {s : State} (h : clkUart s = false) : rxOn s = false := by simp [rxOn, uartOn, h]

/-- The gating check of a read (R136). -/
theorem busRead_gated {x : Reg} {s : State} (h : clocked s x = false) :
    busRead x s = .ok (s.anyWord, s.afterDraw.violate) := by
  cases x with
  | modeLo | modeHi | out =>
    have hclk : clkGpio s = false := h
    simp [busRead, readModeLo, readModeHi, readOut, readGated, hclk]
  | stat | baud | ctrl =>
    have hclk : clkUart s = false := h
    simp [busRead, readStat, readBaud, readCtrl, readGated, hclk]
  | data =>
    have hclk : clkUart s = false := h
    simp [busRead, readData, readGated, hclk, rxOn_eq_false_of_gated hclk]
  | clken => cases h

/-- The gating check of a write, whose value is admitted (R136). -/
theorem busWrite_gated {x : Reg} {s : State} {v : Word} (h : clocked s x = false) (hv : valueOk s.cfg v x = true) :
    busWrite x v s = .ok s.violate := by
  cases x with
  | modeLo | modeHi | out =>
    have hclk : clkGpio s = false := h
    simp [busWrite, writeModeLo, writeModeHi, writeOut, hclk]
  | stat => cases hv
  | data =>
    have hclk : clkUart s = false := h
    have hdata : dataValueOk v = true := hv
    simp [busWrite, writeData, hdata, hclk, txOn_eq_false_of_gated hclk]
  | baud =>
    have hclk : clkUart s = false := h
    have hbaud : baudValueOk s.cfg v = true := hv
    simp [busWrite, writeBaud, hbaud, hclk]
  | ctrl =>
    have hclk : clkUart s = false := h
    have hctrl : ctrlValueOk s.cfg v = true := hv
    simp [busWrite, writeCtrl, hctrl, hclk]
  | clken => cases h

/-- Settles O20: the value is admitted and the register does not answer. -/
theorem gatedAccessIsViolation : Obligations.GatedAccessIsViolation := by
  intro s x hgated
  refine ⟨exec_readOf_of_ok (busRead_gated hgated), fun v hstat hdata hbaud hctrl => ?_⟩
  have hv : valueOk s.cfg v x = true := by
    cases x with
    | modeLo | modeHi | out | clken => rfl
    | stat => exact absurd rfl hstat
    | data => exact dataValueOk_iff.mpr (hdata rfl)
    | baud => exact baudValueOk_iff.mpr (hbaud rfl)
    | ctrl => exact ctrlValueOk_of_and (hctrl rfl)
  exact exec_writeOf_of_ok (busWrite_gated hgated hv)

/-- The bits of `data` in a transaction word are those of the written value (30_encoding.md R91). -/
theorem txnWord_eq_or (w : Bool) (x : Reg) (v : Word) : txnWord w x v = txnWord w x 0 ||| v.setWidth 36 := by
  have hv : v.setWidth 36 = 0#4 ++ v := BitVec.setWidth_eq_append (by omega)
  rw [hv, txnWord, txnWord, BitVec.or_append, BitVec.or_zero]
  exact congrArg _ BitVec.zero_or.symm

/-- Settles O24: the word carries the value in its data field, and the transaction has no effect to offer. -/
theorem writeStatusRefused : Obligations.WriteStatusRefused := by
  intro s v
  refine ⟨?_, exec_writeOf_of_error (x := .stat) rfl⟩
  have hword : 0xB00000000#36 ||| v.setWidth 36 = txnWord true .stat v := (txnWord_eq_or true .stat v).symm
  rw [hword]
  exact decode_txnWord true .stat v

end Sys2Proof.Machine
end

section
/-! The words that registers with open bits read as (00_scope.md R16), above their storage and with the enables and
flags they report (10_state.md R26 to R30). -/

namespace Sys2Proof.Machine

/-- A bit outside the mask is any value. -/
theorem getLsbD_mergeAny_of_not_mask {mask : Word} {i : Nat} (h : mask.getLsbD i = false) (known any : Word) :
    (mergeAny mask known any).getLsbD i = any.getLsbD i := by
  have hbound : any.getLsbD i = true → i < 32 := BitVec.lt_of_getLsbD
  simpa [mergeAny, h] using hbound

/-- A slice at or above the width of the storage is that of the free value. -/
theorem extract_mergeAny_lowMask_above (n len : Nat) (known any : Word) :
    (mergeAny (lowMask n) known any).extractLsb' n len = any.extractLsb' n len := by
  ext i hi
  have hmask : (lowMask n).getLsbD (n + i) = false := by
    rw [getLsbD_lowMask]; exact decide_eq_false (by omega)
  rw [BitVec.getElem_extractLsb', BitVec.getElem_extractLsb', getLsbD_mergeAny_of_not_mask hmask]

theorem extract_mergeAny_lowMask {n : Nat} (hn : n ≤ 32) (known any : Word) :
    (mergeAny (lowMask n) known any).extractLsb' 0 n = known.extractLsb' 0 n := by
  ext i hi
  have hmask : (lowMask n).getLsbD (0 + i) = true := by
    rw [getLsbD_lowMask]; exact decide_eq_true (by omega)
  rw [BitVec.getElem_extractLsb', BitVec.getElem_extractLsb', getLsbD_mergeAny_of_mask hmask]

theorem outWord_extract_above (s : State) (any : Word) :
    (outWord s any).extractLsb' 16 16 = any.extractLsb' 16 16 :=
  extract_mergeAny_lowMask_above 16 16 (s.out.setWidth 32) any

theorem dataWord_extract (b : Byte) (any : Word) : (dataWord b any).extractLsb' 0 8 = b := by
  have hlow : (dataWord b any).extractLsb' 0 8 = (byteWord b).extractLsb' 0 8 :=
    extract_mergeAny_lowMask (by omega) (byteWord b) any
  rw [hlow, byteWord, BitVec.extractLsb'_setWidth_of_le (by omega), BitVec.extractLsb'_eq_self]

theorem dataWord_extract_above (b : Byte) (any : Word) : (dataWord b any).extractLsb' 8 24 = any.extractLsb' 8 24 :=
  extract_mergeAny_lowMask_above 8 24 (byteWord b) any

theorem getLsbD_baudWord_above {s : State} {i : Nat} (h : s.cfg.baudWidth ≤ i) (any : Word) :
    (baudWord s any).getLsbD i = any.getLsbD i := by
  refine getLsbD_mergeAny_of_not_mask ?_ s.baud any
  rw [getLsbD_lowMask]
  exact decide_eq_false (by omega)

theorem getLsbD_bitIf_self (i : Fin 32) (b : Bool) : (bitIf i b).getLsbD i = b := by
  cases b <;> simp [bitIf, getLsbD_bit]

theorem getLsbD_bitIf_of_ne {i j : Nat} (h : j ≠ i) (b : Bool) : (bitIf i b).getLsbD j = false := by
  cases b <;> simp [bitIf, getLsbD_bit, h]

/-- The bits of `STAT` that report a flag (R27). -/
theorem getLsbD_statMask (c : Cfg) (i : Nat) :
    (bit c.statTxe ||| bit c.statRxne).getLsbD i = true ↔ i = c.statTxe.val ∨ i = c.statRxne.val := by
  simp [getLsbD_bit]

theorem statBits_distinct {c : Cfg} (hc : c.Valid) : c.statTxe.val ≠ c.statRxne.val := by
  obtain ⟨-, -, -, hstat, -⟩ := hc
  exact Fin.val_ne_of_ne hstat

theorem ctrlBits_distinct {c : Cfg} (hc : c.Valid) :
    c.ctrlRe.val ≠ c.ctrlTe.val ∧ c.ctrlRe.val ≠ c.ctrlUe.val ∧ c.ctrlTe.val ≠ c.ctrlUe.val := by
  obtain ⟨-, -, -, -, ⟨hreTe, hreUe, hteUe⟩, -⟩ := hc
  exact ⟨Fin.val_ne_of_ne hreTe, Fin.val_ne_of_ne hreUe, Fin.val_ne_of_ne hteUe⟩

section
variable {s : State} (hc : s.cfg.Valid) (any : Word)
include hc

theorem getLsbD_statWord_txe : (statWord s any).getLsbD s.cfg.statTxe = s.txbuf.isNone := by
  rw [statWord, getLsbD_mergeAny_of_mask ((getLsbD_statMask _ _).mpr (.inl rfl)), BitVec.getLsbD_or,
    getLsbD_bitIf_self, getLsbD_bitIf_of_ne (statBits_distinct hc), Bool.or_false, flagTxe]

theorem getLsbD_statWord_rxne : (statWord s any).getLsbD s.cfg.statRxne = s.rxbuf.isSome := by
  rw [statWord, getLsbD_mergeAny_of_mask ((getLsbD_statMask _ _).mpr (.inr rfl)), BitVec.getLsbD_or,
    getLsbD_bitIf_self, getLsbD_bitIf_of_ne (statBits_distinct hc).symm, Bool.false_or, flagRxne]

theorem getLsbD_ctrlWord_re : (ctrlWord s any).getLsbD s.cfg.ctrlRe = s.ctrl.re := by
  obtain ⟨hreTe, hreUe, -⟩ := ctrlBits_distinct hc
  rw [ctrlWord, getLsbD_mergeAny_of_mask ((getLsbD_ctrlEn _ _).mpr (.inl rfl)), BitVec.getLsbD_or, BitVec.getLsbD_or,
    getLsbD_bitIf_self, getLsbD_bitIf_of_ne hreTe, getLsbD_bitIf_of_ne hreUe, Bool.or_false, Bool.or_false]

theorem getLsbD_ctrlWord_te : (ctrlWord s any).getLsbD s.cfg.ctrlTe = s.ctrl.te := by
  obtain ⟨hreTe, -, hteUe⟩ := ctrlBits_distinct hc
  rw [ctrlWord, getLsbD_mergeAny_of_mask ((getLsbD_ctrlEn _ _).mpr (.inr (.inl rfl))), BitVec.getLsbD_or,
    BitVec.getLsbD_or, getLsbD_bitIf_self, getLsbD_bitIf_of_ne hreTe.symm, getLsbD_bitIf_of_ne hteUe, Bool.or_false,
    Bool.false_or]

theorem getLsbD_ctrlWord_ue : (ctrlWord s any).getLsbD s.cfg.ctrlUe = s.ctrl.ue := by
  obtain ⟨-, hreUe, hteUe⟩ := ctrlBits_distinct hc
  rw [ctrlWord, getLsbD_mergeAny_of_mask ((getLsbD_ctrlEn _ _).mpr (.inr (.inr rfl))), BitVec.getLsbD_or,
    BitVec.getLsbD_or, getLsbD_bitIf_self, getLsbD_bitIf_of_ne hreUe.symm, getLsbD_bitIf_of_ne hteUe.symm,
    Bool.or_false, Bool.false_or]

end

theorem getLsbD_statWord_other {s : State} {i : Nat} (htxe : i ≠ s.cfg.statTxe.val) (hrxne : i ≠ s.cfg.statRxne.val)
    (any : Word) : (statWord s any).getLsbD i = any.getLsbD i := by
  refine getLsbD_mergeAny_of_not_mask ?_ _ any
  rw [Bool.eq_false_iff, Ne, getLsbD_statMask]
  exact not_or.mpr ⟨htxe, hrxne⟩

theorem getLsbD_ctrlWord_other {s : State} {i : Nat} (hre : i ≠ s.cfg.ctrlRe.val) (hte : i ≠ s.cfg.ctrlTe.val)
    (hue : i ≠ s.cfg.ctrlUe.val) (any : Word) : (ctrlWord s any).getLsbD i = any.getLsbD i := by
  refine getLsbD_mergeAny_of_not_mask ?_ _ any
  rw [Bool.eq_false_iff, Ne, getLsbD_ctrlEn]
  exact not_or.mpr ⟨hre, not_or.mpr ⟨hte, hue⟩⟩

end Sys2Proof.Machine
end

section
/-! The transactions on the mode and output registers, on `CLKEN`, and the reads of `STAT`, `BAUD` and `CTRL`, with the
clock on (40_bus_transactions.md R120 to R126, R130, R132, R134, R135). -/

namespace Sys2Proof.Machine

/-- Settles O21: reads and writes of plain storage. -/
theorem modeRegisterTransactions : Obligations.ModeRegisterTransactions := by
  intro s v hclk
  exact ⟨exec_readOf_of_ok (busRead_modeLo hclk), exec_readOf_of_ok (busRead_modeHi hclk),
    exec_writeOf_of_ok (busWrite_modeLo hclk v), exec_writeOf_of_ok (busWrite_modeHi hclk v)⟩

/-- Settles O22: the word read is known in its low half alone. -/
theorem outputRegisterTransactions : Obligations.OutputRegisterTransactions := by
  intro s v hclk
  exact ⟨⟨_, exec_readOf_of_ok (busRead_out hclk), outWord_extract s s.anyWord, outWord_extract_above s s.anyWord⟩,
    exec_writeOf_of_ok (busWrite_out hclk v)⟩

theorem busRead_stat {s : State} (h : clkUart s = true) :
    busRead .stat s = .ok (if uartOn s then statWord s s.anyWord else s.anyWord, s.afterDraw) := by
  simp [busRead, readStat, h]

theorem busRead_baud_unwritten {s : State} (h : clkUart s = true) (hv : s.baudValid = false) :
    busRead .baud s = .ok (s.anyWord, s.afterDraw) := by
  simp [busRead, readBaud, h, hv]

/-- Settles O23: the flags are reported exactly with the UART on. -/
theorem readStatusRegister : Obligations.ReadStatusRegister := by
  intro s hc hclk
  refine ⟨_, exec_readOf_of_ok (busRead_stat hclk), fun hon => ?on, fun hoff => ?off⟩
  case on =>
    rw [if_pos hon]
    exact ⟨getLsbD_statWord_txe hc _, getLsbD_statWord_rxne hc _, fun i ht hr => getLsbD_statWord_other ht hr _⟩
  case off => rw [hoff]; rfl

/-- Settles O27: the divisor is reported exactly once written. -/
theorem readBaudRegister : Obligations.ReadBaudRegister := by
  intro s hclk
  cases hv : s.baudValid with
  | true =>
    refine ⟨_, exec_readOf_of_ok (busRead_baud hclk hv), fun _ => ?_, nofun⟩
    exact ⟨fun i hi => getLsbD_baudWord hi _, fun i hi => getLsbD_baudWord_above hi _⟩
  | false => exact ⟨_, exec_readOf_of_ok (busRead_baud_unwritten hclk hv), nofun, fun _ => rfl⟩

/-- Settles O29: the enables stand at three different places. -/
theorem readControlRegister : Obligations.ReadControlRegister := by
  intro s hc hclk
  exact ⟨_, exec_readOf_of_ok (busRead_ctrl hclk), getLsbD_ctrlWord_re hc _, getLsbD_ctrlWord_te hc _,
    getLsbD_ctrlWord_ue hc _, fun i hre hte hue => getLsbD_ctrlWord_other hre hte hue _⟩

theorem busWrite_clken {s : State} {v : Word} (h : clearsClock s v = false) : busWrite .clken v s = .ok { s with
    clken := v
    settlingGpio := s.settlingGpio || startsSettling s s.cfg.clkBitGpio v
    settlingUart := s.settlingUart || startsSettling s s.cfg.clkBitUart v } := by
  simp [busWrite, writeClken, h]

theorem busWrite_clken_of_clears {s : State} {v : Word} (h : clearsClock s v = true) :
    busWrite .clken v s = .error .writeClkenClears := if_pos h

theorem clearsClock_iff {s : State} {v : Word} : clearsClock s v = true ↔
    (s.clken.getLsbD s.cfg.clkBitGpio = true ∧ v.getLsbD s.cfg.clkBitGpio = false) ∨
    (s.clken.getLsbD s.cfg.clkBitUart = true ∧ v.getLsbD s.cfg.clkBitUart = false) := by
  simp [clearsClock]

/-- Settles O31: there is no gating check, only that of cleared clock bits. -/
theorem clockEnableRegister : Obligations.ClockEnableRegister := by
  intro s v
  refine ⟨exec_readOf_of_ok (busRead_clken s), fun hgpio huart => ?stored, fun hclears => ?refused⟩
  case stored =>
    have hkeep : clearsClock s v = false := clearsClock_eq_false_iff.mpr ⟨hgpio, huart⟩
    refine ⟨_, _, exec_writeOf_of_ok (busWrite_clken hkeep), ?_, ?_⟩
    · rw [Bool.or_eq_true, startsSettling_iff]
    · rw [Bool.or_eq_true, startsSettling_iff]
  case refused => exact exec_writeOf_of_error (busWrite_clken_of_clears (clearsClock_iff.mpr hclears))

end Sys2Proof.Machine
end

section
/-! The transactions on `DATA` and the writes of `BAUD` and `CTRL` with the UART clocked (40_bus_transactions.md R128,
R129, R131, R133), case by case in the order of their checks. -/

namespace Sys2Proof.Machine

section
variable {s : State}

theorem busRead_data_taken {b : Byte} (h : rxOn s = true) (hb : s.rxbuf = some b) :
    busRead .data s = .ok (dataWord b s.anyWord, { s.afterDraw with rxbuf := none }) := by
  simp [busRead, readData, h, hb]

theorem busRead_data_empty (h : rxOn s = true) (hb : s.rxbuf = none) : busRead .data s = .error .readDataEmpty := by
  simp [busRead, readData, h, hb]

theorem busRead_data_off (hclk : clkUart s = true) (h : rxOn s = false) : busRead .data s = .ok (readDataOff s) := by
  simp [busRead, readData, h, hclk]

end

/-- Settles O25: the receiver is on with a byte, on without one, or off. -/
theorem readDataRegister : Obligations.ReadDataRegister := by
  intro s
  refine ⟨fun b hon hb => ?taken, fun hon hb => ?empty, fun hclk hoff => ?off⟩
  case taken =>
    exact ⟨_, exec_readOf_of_ok (busRead_data_taken hon hb), dataWord_extract b _, dataWord_extract_above b _⟩
  case empty => exact exec_readOf_of_error (busRead_data_empty hon hb)
  case off => exact exec_readOf_of_ok (busRead_data_off hclk hoff)

section
variable {s : State} {v : Word}

theorem busWrite_data_reserved (h : dataValueOk v = false) : busWrite .data v s = .error .writeDataReserved := by
  simp [busWrite, writeData, h]

theorem busWrite_data_filled (h : dataValueOk v = true) (hon : txOn s = true) (hb : s.txbuf = none) :
    busWrite .data v s = .ok { s with txbuf := some (v.setWidth 8) } := by
  have hbyte : wordByte v = v.setWidth 8 := (BitVec.setWidth_eq_extractLsb' (by omega)).symm
  simp [busWrite, writeData, h, hon, hb, hbyte]

theorem busWrite_data_full {b : Byte} (h : dataValueOk v = true) (hon : txOn s = true) (hb : s.txbuf = some b) :
    busWrite .data v s = .error .writeDataFull := by
  simp [busWrite, writeData, h, hon, hb]

theorem busWrite_data_off (h : dataValueOk v = true) (hclk : clkUart s = true) (hoff : txOn s = false) :
    busWrite .data v s = .ok (writeDataOff s) := by
  simp [busWrite, writeData, h, hclk, hoff]

theorem dataValueOk_eq_false (h : 256 ≤ v.toNat) : dataValueOk v = false := by
  rw [Bool.eq_false_iff, Ne, dataValueOk_iff]
  exact Nat.not_lt.mpr h

end

/-- Settles O26: the value is refused, or the transmitter is on with room, on without room, or off. -/
theorem writeDataRegister : Obligations.WriteDataRegister := by
  intro s v
  refine ⟨fun hlarge => ?reserved, fun hsmall => ?byte⟩
  case reserved => exact exec_writeOf_of_error (busWrite_data_reserved (dataValueOk_eq_false hlarge))
  case byte =>
    have hv : dataValueOk v = true := dataValueOk_iff.mpr hsmall
    exact ⟨fun hon hb => exec_writeOf_of_ok (busWrite_data_filled hv hon hb),
      fun _ hon hb => exec_writeOf_of_error (busWrite_data_full hv hon hb),
      fun hclk hoff => exec_writeOf_of_ok (busWrite_data_off hv hclk hoff)⟩

theorem bufferOccupied_eq_false {s : State} (htx : s.txbuf = none) (hrx : s.rxbuf = none) :
    bufferOccupied s = false := by
  simp [bufferOccupied, htx, hrx]

theorem bufferOccupied_iff {s : State} : bufferOccupied s = true ↔ s.txbuf ≠ none ∨ s.rxbuf ≠ none := by
  simp [bufferOccupied, Option.isSome_iff_ne_none]

section
variable {s : State} {v : Word}

theorem busWrite_baud_range (h : baudValueOk s.cfg v = false) : busWrite .baud v s = .error .writeBaudRange := by
  simp [busWrite, writeBaud, h]

theorem busWrite_baud_busy (h : baudValueOk s.cfg v = true) (hclk : clkUart s = true) (hb : bufferOccupied s = true) :
    busWrite .baud v s = .error .writeBaudBusy := by
  simp [busWrite, writeBaud, h, hclk, hb]

theorem busWrite_baud_stored (h : baudValueOk s.cfg v = true) (hclk : clkUart s = true)
    (hb : bufferOccupied s = false) : busWrite .baud v s = .ok { s with baud := v, baudValid := true } := by
  simp [busWrite, writeBaud, h, hclk, hb]

theorem busWrite_ctrl_reserved (h : ctrlValueOk s.cfg v = false) :
    busWrite .ctrl v s = .error .writeCtrlReserved := by
  simp [busWrite, writeCtrl, h]

theorem busWrite_ctrl_busy (h : ctrlValueOk s.cfg v = true) (hclk : clkUart s = true)
    (hclear : clearsEnable s.ctrl (ctrlOf s.cfg v) = true) (hb : bufferOccupied s = true) :
    busWrite .ctrl v s = .error .writeCtrlBusy := by
  simp [busWrite, writeCtrl, h, hclk, hclear, hb]

theorem busWrite_ctrl_stored (h : ctrlValueOk s.cfg v = true) (hclk : clkUart s = true)
    (hfree : clearsEnable s.ctrl (ctrlOf s.cfg v) = false ∨ bufferOccupied s = false) :
    busWrite .ctrl v s = .ok { s with ctrl := ctrlOf s.cfg v } := by
  rcases hfree with hkeep | hempty
  · simp [busWrite, writeCtrl, h, hclk, hkeep]
  · simp [busWrite, writeCtrl, h, hclk, hempty]

end

/-- Settles O28: the value is refused, or a buffer decides. -/
theorem writeBaudRegister : Obligations.WriteBaudRegister := by
  intro s v
  refine ⟨fun hout => ?range, fun hpos hlt hclk => ⟨fun htx hrx => ?stored, fun hb => ?busy⟩⟩
  case range => exact exec_writeOf_of_error (busWrite_baud_range (baudValueOk_eq_false hout))
  case stored =>
    exact exec_writeOf_of_ok
      (busWrite_baud_stored (baudValueOk_iff.mpr ⟨hpos, hlt⟩) hclk (bufferOccupied_eq_false htx hrx))
  case busy =>
    exact exec_writeOf_of_error (busWrite_baud_busy (baudValueOk_iff.mpr ⟨hpos, hlt⟩) hclk (bufferOccupied_iff.mpr hb))

/-- Some enable that is on would go off (R133). -/
theorem clearsEnable_iff {old new : Ctrl} : clearsEnable old new = true ↔
    (old.re = true ∧ new.re = false) ∨ (old.te = true ∧ new.te = false) ∨ (old.ue = true ∧ new.ue = false) := by
  simp [clearsEnable, or_assoc]

theorem clearsEnable_eq_false_iff {old new : Ctrl} : clearsEnable old new = false ↔
    (old.re = true → new.re = true) ∧ (old.te = true → new.te = true) ∧ (old.ue = true → new.ue = true) := by
  simp [clearsEnable, and_assoc]

theorem ctrlValueOk_eq_false {c : Cfg} {v : Word}
    (h : ∃ i, v.getLsbD i = true ∧ i ≠ c.ctrlRe.val ∧ i ≠ c.ctrlTe.val ∧ i ≠ c.ctrlUe.val) :
    ctrlValueOk c v = false := by
  obtain ⟨i, hi, hre, hte, hue⟩ := h
  rw [Bool.eq_false_iff, Ne, ctrlValueOk_iff]
  intro hall
  exact (not_or.mpr ⟨hre, not_or.mpr ⟨hte, hue⟩⟩) (hall i hi)

/-- Settles O30: the value is refused, or what it clears and the buffers decide. -/
theorem writeControlRegister : Obligations.WriteControlRegister := by
  intro s v
  refine ⟨fun hreserved => ?reserved, fun hbits hclk => ⟨fun hfree => ?stored, fun hclears hb => ?busy⟩⟩
  case reserved => exact exec_writeOf_of_error (busWrite_ctrl_reserved (ctrlValueOk_eq_false hreserved))
  case stored =>
    refine exec_writeOf_of_ok (busWrite_ctrl_stored (ctrlValueOk_iff.mpr hbits) hclk ?_)
    exact hfree.imp clearsEnable_eq_false_iff.mpr fun ⟨htx, hrx⟩ => bufferOccupied_eq_false htx hrx
  case busy =>
    have hclear : clearsEnable s.ctrl (ctrlOf s.cfg v) = true := clearsEnable_iff.mpr hclears
    exact exec_writeOf_of_error
      (busWrite_ctrl_busy (ctrlValueOk_iff.mpr hbits) hclk hclear (bufferOccupied_iff.mpr hb))

end Sys2Proof.Machine
end

section
/-! Pin operations on a gated bank (40_bus_transactions.md R136, 42_clock_gate.md R167): each read and each write of
their sequences is a violation without effect, so only the draws, the mark and the master's record change. -/

namespace Sys2Proof.Machine

theorem runAct_wr {len : Nat} {x : Reg} {f : Temps → Word} {s t : State} (h : busWrite x (f s.me.tmp) s = .ok t) :
    runAct len (.wr x f) s = .next (t.setMe (s.me.proceed len .next)) := by
  simp only [runAct, h, State.proceed_eq, (busWrite_cases h).me_eq]

/-- Steps of an operation after others. -/
theorem execN_add {i : Instr} {m : Nat} {s t : State} (h : execN i m s = .next t) (n : Nat) :
    execN i (m + n) s = execN i n t := by
  induction m generalizing s with
  | zero => cases h; rw [Nat.zero_add]
  | succ m ih =>
    rw [Nat.succ_add]
    simp only [execN] at h ⊢
    split at h
    · exact ih h
    · cases h
    · cases h

/-- A master past a read and a write of its sequence, with the word read in `t` (R39). -/
def Master.afterPair (m : Master) (v : Word) : Master := { m.afterRead v with label := m.label + 2 }

@[simp] theorem Master.afterPair_label (m : Master) (v : Word) : (m.afterPair v).label = m.label + 2 := rfl
@[simp] theorem Master.afterPair_finish (m : Master) (v : Word) : (m.afterPair v).finish = m.finish := rfl

/-- The state after a read of a gated register, and as well after the write that follows it, with the running master's
record `m` (R136). -/
def State.afterGated (s : State) (m : Master) : State := s.afterDraw.violate.setMe m

@[simp] theorem State.afterGated_cfg (s : State) (m : Master) : (s.afterGated m).cfg = s.cfg := rfl
@[simp] theorem clocked_afterGated (s : State) (m : Master) (x : Reg) :
    clocked (s.afterGated m) x = clocked s x := by
  cases x <;> rfl

theorem State.runs_afterGated {s : State} (m : Master) (hs : s.Runs) : (s.afterGated m).Runs :=
  State.runs_setMe (s := s.afterDraw.violate) m hs

theorem State.me_afterGated {s : State} (m : Master) (hs : s.Runs) : (s.afterGated m).me = m :=
  State.me_setMe s.afterDraw.violate m hs

/-- The end of an operation drops what its earlier actions left in the master's record. -/
theorem State.finish_afterGated {s : State} {m : Master} (hs : s.Runs) (hm : m.finish = s.me.finish) :
    (s.afterGated m).afterDraw.finish = s.afterDraw.afterDraw.violate.finish := by
  have hfinish := State.finish_setMe (s := s.afterDraw.afterDraw.violate) m hs
  rw [hm] at hfinish
  exact hfinish

section
variable {i : Instr} {acts : List Act} {x : Reg} {f : Temps → Word} {s : State} {l : Nat}

/-- A read and the write that follows it in a sequence, of one gated register that admits every value: of the block only
the draws and the mark change. -/
theorem execN_gated_pair (hs : s.Runs) (hlabel : s.me.label = l)
    (hexec : ∀ t : State, t.cfg = s.cfg → exec i t = runSeq acts t) (hread : acts[l]? = some (.rd x))
    (hwrite : acts[l + 1]? = some (.wr x f)) (hclk : clocked s x = false) (hv : ∀ v, valueOk s.cfg v x = true) :
    execN i 2 s = .next (s.afterGated ((s.me.afterRead s.anyWord).proceed acts.length .next)) := by
  subst hlabel
  obtain ⟨hlen, -⟩ := List.getElem?_eq_some_iff.mp hwrite
  have hfirst : exec i s = .next (s.afterGated (s.me.afterRead s.anyWord)) := by
    rw [hexec s rfl, runSeq_of_label hread]
    exact runAct_rd hs hlen (busRead_gated hclk)
  have hme := State.me_afterGated (s.me.afterRead s.anyWord) hs
  have hgated : clocked (s.afterGated (s.me.afterRead s.anyWord)) x = false := by
    rw [clocked_afterGated]; exact hclk
  refine execN_two hfirst ?_
  rw [hexec _ (s.afterGated_cfg _), runSeq_of_label (by rw [hme]; exact hwrite),
    runAct_wr (busWrite_gated hgated (hv _)), hme]
  exact congrArg _ (State.setMe_setMe s.afterDraw.violate _ _)

/-- A pair that is not the last leaves its master two actions on. -/
theorem execN_gated_inner (hs : s.Runs) (hlabel : s.me.label = l)
    (hexec : ∀ t : State, t.cfg = s.cfg → exec i t = runSeq acts t) (hread : acts[l]? = some (.rd x))
    (hwrite : acts[l + 1]? = some (.wr x f)) (hinner : l + 2 < acts.length) (hclk : clocked s x = false)
    (hv : ∀ v, valueOk s.cfg v x = true) : execN i 2 s = .next (s.afterGated (s.me.afterPair s.anyWord)) := by
  have hnext : (s.me.afterRead s.anyWord).label + 1 < acts.length := by
    rw [Master.afterRead_label, hlabel]; exact hinner
  rw [execN_gated_pair hs hlabel hexec hread hwrite hclk hv, Master.proceed_next_of_lt hnext]
  rfl

/-- The last pair of an operation ends it. -/
theorem execN_gated_last (hs : s.Runs) (hlabel : s.me.label = l)
    (hexec : ∀ t : State, t.cfg = s.cfg → exec i t = runSeq acts t) (hread : acts[l]? = some (.rd x))
    (hwrite : acts[l + 1]? = some (.wr x f)) (hlast : l + 2 = acts.length) (hclk : clocked s x = false)
    (hv : ∀ v, valueOk s.cfg v x = true) : execN i 2 s = .next { s.afterDraw.finish with viol := true } := by
  have hend : (s.me.afterRead s.anyWord).label + 1 = acts.length := by
    rw [Master.afterRead_label, hlabel, ← hlast]
  rw [execN_gated_pair hs hlabel hexec hread hwrite hclk hv, Master.proceed_next_of_eq hend, Master.afterRead_finish]
  rfl

end

theorem exec_write {p : Nat} (hp : p < 16) (level : Level) (s : State) :
    exec (.write p level) s = runSeq (writeActs p level) s := if_pos (decide_eq_true hp)

theorem exec_setPinMode {p : Nat} (hp : p < 16) (m : PinMode) (s : State) :
    exec (.setPinMode p m) s = runSeq (setPinModeActs s.cfg p m) s := if_pos (decide_eq_true hp)

theorem exec_setPinMode_whole {p : Nat} {s : State} (hp : p < 16) (m : PinMode) (h : s.cfg.pinmodeSplit = false) :
    exec (.setPinMode p m) s = runSeq [.rd (mreg p), .wr (mreg p) fun tmp => ins s.cfg tmp.t p m] s := by
  rw [exec_setPinMode hp, setPinModeActs, h]; rfl

theorem exec_setPinMode_split {p : Nat} {s : State} (hp : p < 16) (m : PinMode) (h : s.cfg.pinmodeSplit = true) :
    exec (.setPinMode p m) s = runSeq [.rd (mreg p), .wr (mreg p) fun tmp => tmp.t &&& ~~~fmask p,
      .rd (mreg p), .wr (mreg p) fun tmp => tmp.t ||| codeAt s.cfg p m] s := by
  rw [exec_setPinMode hp, setPinModeActs, h]; rfl

theorem clocked_mreg (s : State) (p : Nat) : clocked s (mreg p) = clkGpio s := by
  unfold mreg
  split <;> rfl

theorem valueOk_mreg (c : Cfg) (v : Word) (p : Nat) : valueOk c v (mreg p) = true := by
  unfold mreg
  split <;> rfl

section
variable {s : State} {p : Nat}

theorem toggle_gated (hs : s.AtCall) (hclk : clkGpio s = false) (hp : p < 16) :
    execN (.toggle p) 2 s = .next { s.afterDraw.finish with viol := true } :=
  execN_gated_last (x := .out) hs.1 hs.2 (fun t _ => exec_toggle hp t) rfl rfl rfl hclk fun _ => rfl

theorem write_gated (hs : s.AtCall) (hclk : clkGpio s = false) (hp : p < 16) (level : Level) :
    execN (.write p level) 2 s = .next { s.afterDraw.finish with viol := true } :=
  execN_gated_last (x := .out) hs.1 hs.2 (fun t _ => exec_write hp level t) rfl rfl rfl hclk fun _ => rfl

theorem setPinMode_gated_whole (hs : s.AtCall) (hclk : clkGpio s = false) (hp : p < 16) (m : PinMode)
    (h : s.cfg.pinmodeSplit = false) :
    execN (.setPinMode p m) 2 s = .next { s.afterDraw.finish with viol := true } := by
  have hexec (t : State) (ht : t.cfg = s.cfg) :=
    ht ▸ exec_setPinMode_whole (s := t) hp m ((congrArg Cfg.pinmodeSplit ht).trans h)
  exact execN_gated_last hs.1 hs.2 hexec rfl rfl rfl ((clocked_mreg s p).trans hclk) fun v => valueOk_mreg s.cfg v p

/-- Split, the operation is two such pairs; the end of the second drops what the first left in the master's record. -/
theorem setPinMode_gated_split (hs : s.AtCall) (hclk : clkGpio s = false) (hp : p < 16) (m : PinMode)
    (h : s.cfg.pinmodeSplit = true) :
    execN (.setPinMode p m) 4 s = .next { s.afterDraw.afterDraw.finish with viol := true } := by
  obtain ⟨hruns, hlabel⟩ := hs
  have hexec (t : State) (ht : t.cfg = s.cfg) :=
    ht ▸ exec_setPinMode_split (s := t) hp m ((congrArg Cfg.pinmodeSplit ht).trans h)
  have hgated : clocked s (mreg p) = false := (clocked_mreg s p).trans hclk
  have hv (v : Word) : valueOk s.cfg v (mreg p) = true := valueOk_mreg s.cfg v p
  have hfirst := execN_gated_inner hruns hlabel hexec rfl rfl (by simp) hgated hv
  have hlabel₂ : (s.afterGated (s.me.afterPair s.anyWord)).me.label = 2 := by
    rw [State.me_afterGated _ hruns, Master.afterPair_label, hlabel]
  have hlast := execN_gated_last (State.runs_afterGated _ hruns) hlabel₂ hexec rfl rfl rfl
    ((clocked_afterGated _ _ _).trans hgated) hv
  rw [execN_add (n := 2) hfirst, hlast, State.finish_afterGated hruns (Master.afterPair_finish _ _)]
  rfl

end

/-- Settles O43: the operation is one or two reads and writes of a gated register, and its own draws are those of its
reads. -/
theorem gatedPinOperationHasNoEffect : Obligations.GatedPinOperationHasNoEffect := by
  intro s p m level hs hclk hp
  refine ⟨?_, toggle_gated hs hclk hp, write_gated hs hclk hp level⟩
  cases hsplit : s.cfg.pinmodeSplit with
  | false =>
    rw [setPinModeSteps, hsplit]
    exact ⟨_, setPinMode_gated_whole hs hclk hp m hsplit, rfl⟩
  | true =>
    rw [setPinModeSteps, hsplit]
    exact ⟨_, setPinMode_gated_split hs hclk hp m hsplit, rfl⟩

end Sys2Proof.Machine
end

section
/-! The transmit engine (41_hardware_steps.md R150) and the bytes accepted for transmission: those on the line and the
one in the buffer. -/

namespace Sys2Proof.Machine

theorem txDrain_of_byte {s : State} {b : Byte} (hon : txOn s = true) (hb : s.txbuf = some b) :
    txDrain s = { s with txLine := s.txLine ++ [(b, txRouted s)], txbuf := none } := by
  simp [txDrain, hon, hb]

theorem txDrain_of_not_enabled {s : State} (h : ¬ TxDrainEnabled s) : txDrain s = s := by
  unfold txDrain
  split
  case isTrue hon =>
    have hb : s.txbuf = none := by_contra fun hfull => h ⟨hon, hfull⟩
    rw [hb]
  case isFalse => rfl

/-- A transmitter that is on leaves its buffer empty when it steps. -/
theorem txDrain_txbuf {s : State} (hon : txOn s = true) : (txDrain s).txbuf = none := by
  cases hb : s.txbuf with
  | none => rw [txDrain_of_not_enabled fun h => h.2 hb, hb]
  | some b => rw [txDrain_of_byte hon hb]

/-- The engine moves a byte from the buffer to the end of the line, and the bytes accepted stay in order. -/
theorem sentBytes_txDrain (s : State) : sentBytes (txDrain s) = sentBytes s := by
  by_cases h : TxDrainEnabled s
  · obtain ⟨hon, hfull⟩ := h
    obtain ⟨b, hb⟩ := Option.ne_none_iff_exists'.mp hfull
    simp [txDrain_of_byte hon hb, sentBytes, hb]
  · rw [txDrain_of_not_enabled h]

/-- Nothing is accepted, or one byte is, into an empty buffer of a transmitter that is on, with the line as it was. -/
def State.StreamKeptOrGrown (s t : State) : Prop :=
  sentBytes t = sentBytes s ∨
    ∃ b, sentBytes t = sentBytes s ++ [b] ∧ s.txbuf = none ∧ t.txbuf = some b ∧ t.txLine = s.txLine ∧ txOn s = true

theorem ReadStep.sentBytes_eq {s t : State} {x : Reg} {v : Word} (h : ReadStep s x v t) :
    sentBytes t = sentBytes s := by
  cases h <;> rfl

/-- An accepted write of `DATA` puts one byte into the empty buffer (R129 a); the only other write that touches the
buffer, with the transmitter off (R129 c), marks a violation. -/
theorem WriteStep.streamKeptOrGrown {s t : State} {x : Reg} {v : Word} (h : WriteStep s v x t)
    (hclean : t.viol = false) : s.StreamKeptOrGrown t := by
  cases h with
  | filled _ hon hb => exact .inr ⟨wordByte v, by simp [sentBytes, hb], hb, rfl, rfl, hon⟩
  | off _ _ _ => cases hclean
  | gated _ _ | modeLo _ | modeHi _ | out _ | baud _ _ _ | ctrl _ _ _ | clken _ => exact .inl rfl

theorem BlockStep.streamKeptOrGrown {s t : State} (h : BlockStep s t) (hclean : t.viol = false) :
    s.StreamKeptOrGrown t := by
  cases h with
  | same | violated => exact .inl rfl
  | read hr => exact .inl hr.sentBytes_eq
  | write hw => exact hw.streamKeptOrGrown hclean

/-- The receive side has no part in the transmit stream. -/
theorem LineStep.sentBytes_eq {s t : State} (h : LineStep s t) : sentBytes t = sentBytes s := by
  cases h <;> rfl

theorem sentBytes_settleGpio (s : State) : sentBytes (settleGpio s) = sentBytes s := by
  unfold settleGpio
  split <;> rfl

theorem sentBytes_settleUart (s : State) : sentBytes (settleUart s) = sentBytes s := by
  unfold settleUart
  split <;> rfl

/-- Of the agents, only a master can add to the stream. -/
theorem AgentStep.streamKeptOrGrown {s t : State} {a : Agent} (h : AgentStep s a t) (hclean : t.viol = false) :
    s.StreamKeptOrGrown t := by
  cases h with
  | instr _ _ hb => exact hb.streamKeptOrGrown hclean
  | alone _ => exact .inl rfl
  | txDrain => exact .inl (sentBytes_txDrain s)
  | rxArrive => exact .inl (rxArrive_cases s).sentBytes_eq
  | rxOverrun keepNew => exact .inl (rxOverrun_cases keepNew s).sentBytes_eq
  | rxDrop receive keepNew => exact .inl (rxDrop_cases receive keepNew s).sentBytes_eq
  | settleGpio => exact .inl (sentBytes_settleGpio s)
  | settleUart => exact .inl (sentBytes_settleUart s)

/-- Settles O14: `State.StreamKeptOrGrown` holds across the step of every agent that leaves the run clean, and taking
the agent off the schedule does not touch the stream. -/
theorem stepKeepsByteStream : Obligations.StepKeepsByteStream := by
  intro s t h hclean
  exact (step_cases h).streamKeptOrGrown hclean

/-- Settles O16: the engine steps by `txDrain`, and is enabled exactly with the transmitter on and a byte to send. -/
theorem transmitEngineStep : Obligations.TransmitEngineStep := by
  intro s
  refine ⟨fun b hon hb => congrArg Host.Outcome.next (txDrain_of_byte hon hb), fun hidle => ?_⟩
  have hnot : ¬ TxDrainEnabled s := by
    rintro ⟨hon, hfull⟩
    rcases hidle with hoff | hempty
    · exact Bool.false_ne_true (hoff.symm.trans hon)
    · exact hfull hempty
  exact congrArg Host.Outcome.next (txDrain_of_not_enabled hnot)

theorem eq_txDrain_of_agentStep {s t : State} (h : AgentStep s .txDrain t) : t = txDrain s := by
  cases h; rfl

/-- What a run supplies before the engine's step does not touch the transmitter, so the step empties its buffer. -/
theorem IsRun.txbuf_after_txDrain {e : Nat → Moment} {r : Nat → State} {m : Nat} (hrun : IsRun e r)
    (hagent : (e m).agent = .txDrain) (hon : txOn (r m) = true) : (r (m + 1)).txbuf = none := by
  have hstep : AgentStep ((r m).supply (e m)).scheduled .txDrain (r (m + 1)) := hagent ▸ run_step hrun m
  rw [eq_txDrain_of_agentStep hstep]
  exact txDrain_txbuf (by simpa using hon)

/-- Settles O60: were the buffer never empty from `n` on, the engine would stay enabled, so by fairness it would step,
and that step empties the buffer. -/
theorem txProgressEmptiesBuffer : Obligations.TxProgressEmptiesBuffer := by
  intro e r hrun hfair n hon
  by_contra hnever
  have henabled (m : Nat) (hm : n ≤ m) : TxDrainEnabled (r m) := ⟨hon m hm, fun hb => hnever ⟨m, hm, hb⟩⟩
  obtain ⟨m, hm, hagent⟩ := hfair n henabled
  exact hnever ⟨m + 1, Nat.le_succ_of_le hm, hrun.txbuf_after_txDrain hagent (hon m hm)⟩

end Sys2Proof.Machine
end

section
/-! The receive engine (41_hardware_steps.md R151 to R153), by the receive buffer, the receiver and its pin. -/

namespace Sys2Proof.Machine

/-- `RXOVERRUN` is enabled (R152). -/
def RxOverrunEnabled (s : State) : Prop :=
  s.rxPos < s.rxIn.length ∧ rxOn s = true ∧ rxPinOk s = true ∧ s.rxbuf ≠ none

theorem rxPos_lt_of_byte {s : State} {new : Byte} (h : s.rxIn[s.rxPos]? = some new) : s.rxPos < s.rxIn.length :=
  (List.getElem?_eq_some_iff.mp h).1

section
variable {s : State} {new : Byte}

theorem takeFromLine_of_empty (hbuf : s.rxbuf = none) (keepNew : Bool) :
    takeFromLine s new keepNew = { s with rxbuf := some new, rxPos := s.rxPos + 1 } := by
  simp [takeFromLine, receiveByte, hbuf]

theorem takeFromLine_of_full {old : Byte} (hbuf : s.rxbuf = some old) (keepNew : Bool) :
    takeFromLine s new keepNew =
      { s with rxbuf := some (if keepNew then new else old), rxPos := s.rxPos + 1, rxLost := s.rxLost + 1 } := by
  simp [takeFromLine, loseByte, hbuf]

theorem rxArrive_of_empty (hnew : s.rxIn[s.rxPos]? = some new) (hon : rxOn s = true) (hpin : rxPinOk s = true)
    (hbuf : s.rxbuf = none) : rxArrive s = { s with rxbuf := some new, rxPos := s.rxPos + 1 } := by
  rw [← takeFromLine_of_empty hbuf false]
  simp [rxArrive, hnew, hon, hpin, hbuf]

theorem rxOverrun_of_full {old : Byte} (hnew : s.rxIn[s.rxPos]? = some new) (hon : rxOn s = true)
    (hpin : rxPinOk s = true) (hbuf : s.rxbuf = some old) (keepNew : Bool) :
    rxOverrun keepNew s =
      { s with rxbuf := some (if keepNew then new else old), rxPos := s.rxPos + 1, rxLost := s.rxLost + 1 } := by
  rw [← takeFromLine_of_full hbuf keepNew]
  simp [rxOverrun, hnew, hon, hpin, hbuf]

end

theorem rxArrive_of_not_enabled {s : State} (h : ¬ RxArriveEnabled s) : rxArrive s = s := by
  unfold rxArrive
  split
  case h_1 new hnew =>
    refine if_neg fun hcond => h ?_
    simp only [Bool.and_eq_true, Option.isNone_iff_eq_none] at hcond
    obtain ⟨⟨hon, hpin⟩, hbuf⟩ := hcond
    exact ⟨rxPos_lt_of_byte hnew, hon, hpin, hbuf⟩
  case h_2 => rfl

theorem rxOverrun_of_not_enabled {s : State} (h : ¬ RxOverrunEnabled s) (keepNew : Bool) : rxOverrun keepNew s = s := by
  unfold rxOverrun
  split
  case h_1 new hnew =>
    refine if_neg fun hcond => h ?_
    simp only [Bool.and_eq_true, Option.isSome_iff_ne_none] at hcond
    obtain ⟨⟨hon, hpin⟩, hbuf⟩ := hcond
    exact ⟨rxPos_lt_of_byte hnew, hon, hpin, hbuf⟩
  case h_2 => rfl

/-- What both steps need besides the buffer: a byte to come, the receiver on and its pin an input. -/
theorem line_not_ready {s : State} (h : s.rxIn.length ≤ s.rxPos ∨ rxOn s = false ∨ rxPinOk s = false) :
    ¬ (s.rxPos < s.rxIn.length ∧ rxOn s = true ∧ rxPinOk s = true) := by
  rintro ⟨hlt, hon, hpin⟩
  rcases h with hend | hoff | hno
  · exact Nat.not_lt.mpr hend hlt
  · exact Bool.false_ne_true (hoff.symm.trans hon)
  · exact Bool.false_ne_true (hno.symm.trans hpin)

/-- Settles O17: the buffer says which of the two steps is enabled; without a byte, the receiver or its pin, neither
is. -/
theorem receiveEngineSteps : Obligations.ReceiveEngineSteps := by
  intro s b
  refine ⟨fun new hnew hon hpin => ⟨fun hbuf => ?empty, fun old hbuf => ?full⟩, fun hidle => ?idle⟩
  case empty =>
    have hnot : ¬ RxOverrunEnabled s := fun ⟨_, _, _, hfull⟩ => hfull hbuf
    exact ⟨congrArg Host.Outcome.next (rxArrive_of_empty hnew hon hpin hbuf),
      congrArg Host.Outcome.next (rxOverrun_of_not_enabled hnot b)⟩
  case full =>
    have hnot : ¬ RxArriveEnabled s := fun ⟨_, _, _, hempty⟩ => Option.some_ne_none old (hbuf.symm.trans hempty)
    exact ⟨congrArg Host.Outcome.next (rxArrive_of_not_enabled hnot),
      congrArg Host.Outcome.next (rxOverrun_of_full hnew hon hpin hbuf true),
      congrArg Host.Outcome.next (rxOverrun_of_full hnew hon hpin hbuf false)⟩
  case idle =>
    have hnot := line_not_ready hidle
    exact ⟨congrArg Host.Outcome.next (rxArrive_of_not_enabled fun ⟨hlt, hon, hpin, _⟩ => hnot ⟨hlt, hon, hpin⟩),
      congrArg Host.Outcome.next (rxOverrun_of_not_enabled (fun ⟨hlt, hon, hpin, _⟩ => hnot ⟨hlt, hon, hpin⟩) b)⟩

section
variable {s : State} {new : Byte} (hnew : s.rxIn[s.rxPos]? = some new)
include hnew

theorem rxDrop_of_receiver_off (hoff : rxOn s = false) (receive keepNew : Bool) :
    rxDrop receive keepNew s = loseByte s := by
  simp [rxDrop, hnew, hoff]

theorem rxDrop_of_wrong_pin (hon : rxOn s = true) (hpin : rxPinOk s = false) (receive keepNew : Bool) :
    rxDrop receive keepNew s = if receive then takeFromLine s new keepNew else loseByte s := by
  simp [rxDrop, hnew, hon, hpin]

theorem rxDrop_of_ready (hon : rxOn s = true) (hpin : rxPinOk s = true) (receive keepNew : Bool) :
    rxDrop receive keepNew s = s := by
  simp [rxDrop, hnew, hon, hpin]

end

/-- Settles O18: the receiver is off, on with a pin that is no input, or in order; a byte received all the same goes
the way of `takeFromLine`. -/
theorem droppedByteSteps : Obligations.DroppedByteSteps := by
  intro s new a b hnew
  refine ⟨fun hoff => ?off, fun hon hpin => ⟨?lost, fun hbuf => ?empty, fun old hbuf => ?full⟩, fun hon hpin => ?ready⟩
  case off => exact congrArg Host.Outcome.next (rxDrop_of_receiver_off hnew hoff a b)
  case lost => exact congrArg Host.Outcome.next (rxDrop_of_wrong_pin hnew hon hpin false b)
  case empty =>
    exact congrArg Host.Outcome.next
      ((rxDrop_of_wrong_pin hnew hon hpin true b).trans (takeFromLine_of_empty hbuf b))
  case full =>
    exact congrArg Host.Outcome.next
      ((rxDrop_of_wrong_pin hnew hon hpin true b).trans (takeFromLine_of_full hbuf b))
  case ready => exact congrArg Host.Outcome.next (rxDrop_of_ready hnew hon hpin a b)

end Sys2Proof.Machine
end

section
/-! The settling of a clock (41_hardware_steps.md R154, 10_state.md R35). -/

namespace Sys2Proof.Machine

section
variable {s : State}

theorem settleGpio_of_nondet (h : s.cfg.settleMode = .nondet) : settleGpio s = { s with settlingGpio := false } :=
  if_pos h

theorem settleUart_of_nondet (h : s.cfg.settleMode = .nondet) : settleUart s = { s with settlingUart := false } :=
  if_pos h

theorem settleGpio_of_none (h : s.cfg.settleMode = .none) : settleGpio s = s := by simp [settleGpio, h]

theorem settleUart_of_none (h : s.cfg.settleMode = .none) : settleUart s = s := by simp [settleUart, h]

theorem clkGpio_of_settled (h : s.settlingGpio = false) : clkGpio s = s.clken.getLsbD s.cfg.clkBitGpio := by
  simp [clkGpio, h]

theorem clkUart_of_settled (h : s.settlingUart = false) : clkUart s = s.clken.getLsbD s.cfg.clkBitUart := by
  simp [clkUart, h]

end

/-- Settles O19: by the mode, and the clock predicate of a settled peripheral is its clock bit. -/
theorem clockSettleSteps : Obligations.ClockSettleSteps := by
  intro s
  refine ⟨fun hmode => ?nondet, fun hmode => ?none, clkGpio_of_settled rfl, clkUart_of_settled rfl⟩
  case nondet =>
    exact ⟨congrArg Host.Outcome.next (settleGpio_of_nondet hmode),
      congrArg Host.Outcome.next (settleUart_of_nondet hmode)⟩
  case none =>
    exact ⟨congrArg Host.Outcome.next (settleGpio_of_none hmode),
      congrArg Host.Outcome.next (settleUart_of_none hmode)⟩

end Sys2Proof.Machine
end

section
/-! `enable_clock` (42_clock_gate.md R165, R166): a read of `CLKEN` and a write of the word read with one more bit,
which clears no clock bit and starts only the named peripheral settling. -/

namespace Sys2Proof.Machine

theorem clkBits_distinct {c : Cfg} (hc : c.Valid) : c.clkBitGpio.val ≠ c.clkBitUart.val := by
  obtain ⟨-, -, hclk, -⟩ := hc
  exact fun h => hclk (Fin.ext h)

theorem getLsbD_clkMask_self (c : Cfg) (which : Periph) : (clkMask c which).getLsbD (clkBit c which) = true := by
  cases which <;> simp [clkMask, clkBit, getLsbD_bit]

theorem getLsbD_clkMask_of_ne {c : Cfg} {which : Periph} {i : Nat} (h : i ≠ clkBit c which) :
    (clkMask c which).getLsbD i = false := by
  simp [clkMask, getLsbD_bit, h]

/-- Of the two clock bits, the one in `CLKMASK(which)` is that of `which` (R103). -/
theorem getLsbD_clkMask_gpio {c : Cfg} (hc : c.Valid) (which : Periph) :
    (clkMask c which).getLsbD c.clkBitGpio = (which == .gpio) := by
  cases which with
  | gpio => exact getLsbD_clkMask_self c .gpio
  | uart => exact getLsbD_clkMask_of_ne (clkBits_distinct hc)

theorem getLsbD_clkMask_uart {c : Cfg} (hc : c.Valid) (which : Periph) :
    (clkMask c which).getLsbD c.clkBitUart = (which == .uart) := by
  cases which with
  | gpio => exact getLsbD_clkMask_of_ne (clkBits_distinct hc).symm
  | uart => exact getLsbD_clkMask_self c .uart

section
variable {s : State} {which : Periph}

/-- More bits clear no clock bit, so the write is never refused (R135). -/
theorem clearsClock_or (mask : Word) : clearsClock s (s.clken ||| mask) = false := by
  refine clearsClock_eq_false_iff.mpr ⟨fun h => ?gpio, fun h => ?uart⟩
  case gpio => rw [BitVec.getLsbD_or, h, Bool.true_or]
  case uart => rw [BitVec.getLsbD_or, h, Bool.true_or]

theorem startsSettling_or (i : Nat) (mask : Word) : startsSettling s i (s.clken ||| mask) =
    ((s.cfg.settleMode == .nondet) && mask.getLsbD i && !s.clken.getLsbD i) := by
  rw [startsSettling, BitVec.getLsbD_or]
  cases s.clken.getLsbD i <;> simp

/-- The block with the clock of `which` enabled as well: its bit of `CLKEN`, and its settling flag if the bit was 0 and
`SETTLE_MODE = nondet` (R135, R165). -/
def State.withClock (s : State) (which : Periph) : State := { s with
  clken := s.clken ||| clkMask s.cfg which
  settlingGpio := s.settlingGpio ||
    ((s.cfg.settleMode == .nondet) && (which == .gpio) && !s.clken.getLsbD s.cfg.clkBitGpio)
  settlingUart := s.settlingUart ||
    ((s.cfg.settleMode == .nondet) && (which == .uart) && !s.clken.getLsbD s.cfg.clkBitUart) }

theorem busWrite_clken_or_clkMask (hc : s.cfg.Valid) (which : Periph) :
    busWrite .clken (s.clken ||| clkMask s.cfg which) s = .ok (s.withClock which) := by
  rw [busWrite_clken (clearsClock_or _), startsSettling_or, startsSettling_or, getLsbD_clkMask_gpio hc,
    getLsbD_clkMask_uart hc]
  rfl

theorem or_clkMask_of_on {c : Cfg} {v : Word} (hon : v.getLsbD (clkBit c which) = true) : v ||| clkMask c which = v := by
  refine BitVec.eq_of_getLsbD_eq fun i _ => ?_
  rw [BitVec.getLsbD_or]
  by_cases h : i = clkBit c which
  · rw [h, hon, Bool.true_or]
  · rw [getLsbD_clkMask_of_ne h, Bool.or_false]

/-- The word read is written back, and no settling starts (R166). -/
theorem State.withClock_of_on (hon : s.clken.getLsbD (clkBit s.cfg which) = true) : s.withClock which = s := by
  have hgpio : ((which == .gpio) && !s.clken.getLsbD s.cfg.clkBitGpio) = false := by
    cases which with
    | gpio => exact congrArg (!·) hon
    | uart => rfl
  have huart : ((which == .uart) && !s.clken.getLsbD s.cfg.clkBitUart) = false := by
    cases which with
    | gpio => rfl
    | uart => exact congrArg (!·) hon
  simp only [withClock, or_clkMask_of_on hon, Bool.and_assoc, hgpio, huart, Bool.and_false, Bool.or_false]

/-- The state after the first step: the word of `CLKEN` is in the master's `t`, and the block is as it was. -/
def State.afterClkenRead (s : State) : State := s.setMe (s.me.afterRead s.clken)

theorem State.me_afterClkenRead (hs : s.Runs) : s.afterClkenRead.me = s.me.afterRead s.clken := s.me_setMe _ hs

theorem State.finish_afterClkenRead (hs : s.Runs) : s.afterClkenRead.finish = s.finish := by
  rw [afterClkenRead, finish_setMe _ hs, Master.afterRead_finish, finish_eq]

theorem enableClock_reads (hs : s.AtCall) (which : Periph) : exec (.enableClock which) s = .next s.afterClkenRead := by
  obtain ⟨hruns, hlabel⟩ := hs
  have hread : exec (.enableClock which) s = runAct 2 (.rd .clken) s := runSeq_of_label (by rw [hlabel]; rfl)
  rw [hread]
  exact runAct_rd hruns (by rw [hlabel]; exact Nat.lt_add_one 1) (busRead_clken s)

/-- The second step, with `CLKEN` still as it was read. -/
theorem enableClock_writes (hc : s.cfg.Valid) (hlabel : s.me.label = 1) (hword : s.me.tmp.t = s.clken)
    (which : Periph) : exec (.enableClock which) s = .next (s.finish.withClock which) := by
  have hwrite : exec (.enableClock which) s = runAct 2 (.wr .clken fun tmp => tmp.t ||| clkMask s.cfg which) s :=
    runSeq_of_label (by rw [hlabel]; rfl)
  have hok := busWrite_clken_or_clkMask hc which
  rw [← hword] at hok
  rw [hwrite]
  exact runAct_wr_last (f := fun tmp => tmp.t ||| clkMask s.cfg which) (by rw [hlabel]) hok

/-- The second step right after the first, with nothing of the block written between them. -/
theorem enableClock_writes_after_read (hc : s.cfg.Valid) (hs : s.AtCall) (which : Periph) :
    exec (.enableClock which) s.afterClkenRead = .next (s.finish.withClock which) := by
  obtain ⟨hruns, hlabel⟩ := hs
  have hme := State.me_afterClkenRead hruns
  have hlabel₁ : s.afterClkenRead.me.label = 1 := by rw [hme, Master.afterRead_label, hlabel]
  have hword : s.afterClkenRead.me.tmp.t = s.clken := by rw [hme, Master.afterRead_t]
  rw [enableClock_writes (s := s.afterClkenRead) hc hlabel₁ hword which, State.finish_afterClkenRead hruns]

end

/-- Settles O36: nothing runs between the two steps, so the word read is that of `CLKEN`, and the write adds one bit to
it or, on a clock that is on, none. -/
theorem enableClockSetsItsBit : Obligations.EnableClockSetsItsBit := by
  intro s which hc hs
  have hsecond := enableClock_writes_after_read hc hs which
  refine ⟨_, enableClock_reads hs which, hsecond, fun hon => ?_⟩
  rw [hsecond, State.withClock_of_on (s := s.finish) hon]

end Sys2Proof.Machine
end

section
/-! A read of a sequence and the write that follows it, with no other agent between them (20_memory.md R71). -/

namespace Sys2Proof.Machine

section
variable {i : Instr} {acts : List Act} {x y : Reg} {f : Temps → Word} {s t u : State} {v : Word} {l : Nat}

/-- The write computes its word from the one read, and leaves the master past both actions. -/
theorem exec_pair (hs : s.Runs) (hlabel : s.me.label = l)
    (hexec : ∀ r : State, r.cfg = s.cfg → exec i r = runSeq acts r) (hread : acts[l]? = some (.rd x))
    (hwrite : acts[l + 1]? = some (.wr y f)) (hr : busRead x s = .ok (v, t))
    (hw : busWrite y (f (s.me.afterRead v).tmp) (t.setMe (s.me.afterRead v)) = .ok u) :
    exec i s = .next (t.setMe (s.me.afterRead v)) ∧
      exec i (t.setMe (s.me.afterRead v)) = .next (u.setMe ((s.me.afterRead v).proceed acts.length .next)) := by
  subst hlabel
  obtain ⟨hlen, -⟩ := List.getElem?_eq_some_iff.mp hwrite
  have hstep := busRead_cases hr
  have hme : (t.setMe (s.me.afterRead v)).me = s.me.afterRead v := State.me_setMe _ _ (hstep.runs hs)
  constructor
  · rw [hexec s rfl, runSeq_of_label hread]
    exact runAct_rd hs hlen hr
  · rw [hexec (t.setMe _) hstep.grows.cfg, runSeq_of_label (by rw [hme]; exact hwrite),
      runAct_wr (by rw [hme]; exact hw), hme]

theorem exec_of_execN_two (h : execN i 2 s = .next u) (h₁ : exec i s = .next t) : exec i t = .next u := by
  simp only [execN, h₁] at h
  split at h
  · next hexec => rw [hexec, h]
  · cases h
  · cases h

end

/-- Past an operation, the master stands at the call of the next one (10_state.md R40). -/
theorem State.atCall_finish {s : State} (hs : s.Runs) : s.finish.AtCall :=
  ⟨State.runs_setMe _ hs, congrArg Master.label (s.me_setMe s.me.finish hs)⟩

theorem State.atCall_finishWith {s : State} (hs : s.Runs) (r : Word) : (s.finishWith r).AtCall :=
  ⟨State.runs_setMe _ hs, congrArg Master.label (s.me_setMe { s.me.finish with ret := r } hs)⟩

end Sys2Proof.Machine
end

section
/-! The mode register of a pin (30_encoding.md R95): what a transaction on it does with the bank clocked, and what it
means for the fields of the pins (10_state.md R24). -/

namespace Sys2Proof.Machine

/-- The word in the mode register of pin `p`. -/
def State.modeReg (s : State) (p : Nat) : Word := if p < 8 then s.modeLo else s.modeHi

/-- Another word in the mode register of pin `p`. -/
def State.withModeReg (s : State) (p : Nat) (v : Word) : State :=
  { s with modeLo := if p < 8 then v else s.modeLo, modeHi := if p < 8 then s.modeHi else v }

section
variable {s : State} {p q : Nat} {v w : Word}


theorem mreg_eq_iff : mreg q = mreg p ↔ (q < 8 ↔ p < 8) := by
  by_cases hp : p < 8 <;> by_cases hq : q < 8 <;> simp [mreg, hp, hq]

theorem State.withModeReg_of_lt (h : p < 8) : s.withModeReg p v = { s with modeLo := v } := by
  simp [withModeReg, h]

theorem State.withModeReg_of_le (h : 8 ≤ p) : s.withModeReg p v = { s with modeHi := v } := by
  simp [withModeReg, Nat.not_lt.mpr h]

/-- The words written into the mode registers are part of the block, the masters' records are not. -/
theorem State.withModeReg_setMe (m : Master) : (s.setMe m).withModeReg p v = (s.withModeReg p v).setMe m := rfl

@[simp] theorem State.modeReg_withModeReg_self : (s.withModeReg p v).modeReg p = v := by
  by_cases h : p < 8 <;> simp [modeReg, withModeReg, h]

/-- The last write of a mode register counts. -/
@[simp] theorem State.withModeReg_withModeReg : (s.withModeReg p v).withModeReg p w = s.withModeReg p w := by
  by_cases h : p < 8 <;> simp [withModeReg, h]

theorem State.modeReg_withModeReg_of_ne (h : mreg q ≠ mreg p) : (s.withModeReg p v).modeReg q = s.modeReg q := by
  rw [Ne, mreg_eq_iff] at h
  by_cases hp : p < 8 <;> by_cases hq : q < 8 <;> simp [modeReg, withModeReg, hp, hq] at h ⊢

theorem State.modeReg_congr (h : mreg q = mreg p) : s.modeReg q = s.modeReg p := by
  rw [modeReg, modeReg, if_congr (mreg_eq_iff.mp h) rfl rfl]

theorem busRead_mreg (h : clkGpio s = true) (p : Nat) : busRead (mreg p) s = .ok (s.modeReg p, s) := by
  rcases Nat.lt_or_ge p 8 with hp | hp
  · rw [mreg, State.modeReg, if_pos hp, if_pos hp, busRead_modeLo h]
  · rw [mreg, State.modeReg, if_neg hp.not_gt, if_neg hp.not_gt, busRead_modeHi h]

theorem busWrite_mreg (h : clkGpio s = true) (p : Nat) (v : Word) :
    busWrite (mreg p) v s = .ok (s.withModeReg p v) := by
  rcases Nat.lt_or_ge p 8 with hp | hp
  · rw [mreg, if_pos hp, busWrite_modeLo h, State.withModeReg_of_lt hp]
  · rw [mreg, if_neg hp.not_gt, busWrite_modeHi h, State.withModeReg_of_le hp]

/-- A pin's field lies in its mode register at its own place (R24, R95). -/
theorem field_eq_extract (hp : p < 16) : field s p = (s.modeReg p).extractLsb' (sh p) 4 := by
  rcases Nat.lt_or_ge p 8 with h | h
  · rw [field_of_lt h, State.modeReg, if_pos h, sh, Nat.mod_eq_of_lt h]
  · rw [field_of_le h, State.modeReg, if_neg h.not_gt, sh, show p % 8 = p - 8 by omega]

end

/-- An insertion leaves the slice of a field that is apart from its own (R97). -/
theorem extract_ins_of_disjoint {p q : Nat} (hd : sh q + 3 < sh p ∨ sh p + 3 < sh q) (c : Cfg) (t : Word)
    (m : PinMode) : (ins c t p m).extractLsb' (sh q) 4 = t.extractLsb' (sh q) 4 := by
  ext i hi
  have hout : ¬ InField p (sh q + i) := (not_inField_iff p _).mpr (by omega)
  rw [BitVec.getElem_extractLsb', BitVec.getElem_extractLsb', getLsbD_ins_outside c t m hout]

/-- The first half of a split insertion clears the field (43_gpio.md R170). -/
theorem extract_and_not_fmask (t : Word) (p : Nat) : (t &&& ~~~fmask p).extractLsb' (sh p) 4 = 0 := by
  ext i hi
  have hin : InField p (sh p + i) := ⟨by omega, by omega⟩
  rw [BitVec.getElem_extractLsb', BitVec.getLsbD_and, BitVec.getLsbD_not, getLsbD_fmask hin]
  simp

end Sys2Proof.Machine
end

section
/-! `set_pin_mode` with the bank clocked (43_gpio.md R170 to R172): one read and write of the pin's mode register, or,
split, two of them. -/

namespace Sys2Proof.Machine

section
variable {i : Instr} {acts : List Act} {g : Word → Word} {s : State} {l p : Nat}

/-- A read of a mode register and the write of the word `g` makes of it. -/
theorem execN_mode_pair (hs : s.Runs) (hlabel : s.me.label = l)
    (hexec : ∀ r : State, r.cfg = s.cfg → exec i r = runSeq acts r) (hread : acts[l]? = some (.rd (mreg p)))
    (hwrite : acts[l + 1]? = some (.wr (mreg p) fun tmp => g tmp.t)) (hclk : clkGpio s = true) :
    execN i 2 s = .next ((s.withModeReg p (g (s.modeReg p))).setMe
      ((s.me.afterRead (s.modeReg p)).proceed acts.length .next)) := by
  have hclk₁ : clkGpio (s.setMe (s.me.afterRead (s.modeReg p))) = true := hclk
  obtain ⟨h₁, h₂⟩ := exec_pair hs hlabel hexec hread hwrite (busRead_mreg hclk p) (busWrite_mreg hclk₁ p _)
  rw [execN_two h₁ h₂, State.withModeReg_setMe, State.setMe_setMe, Master.afterRead_t]

/-- A pair that is not the last leaves its master two actions on. -/
theorem execN_mode_inner (hs : s.Runs) (hlabel : s.me.label = l)
    (hexec : ∀ r : State, r.cfg = s.cfg → exec i r = runSeq acts r) (hread : acts[l]? = some (.rd (mreg p)))
    (hwrite : acts[l + 1]? = some (.wr (mreg p) fun tmp => g tmp.t)) (hinner : l + 2 < acts.length)
    (hclk : clkGpio s = true) :
    execN i 2 s = .next ((s.withModeReg p (g (s.modeReg p))).setMe (s.me.afterPair (s.modeReg p))) := by
  have hnext : (s.me.afterRead (s.modeReg p)).label + 1 < acts.length := by
    rw [Master.afterRead_label, hlabel]; exact hinner
  rw [execN_mode_pair hs hlabel hexec hread hwrite hclk, Master.proceed_next_of_lt hnext]
  rfl

/-- The last pair of an operation ends it. -/
theorem execN_mode_last (hs : s.Runs) (hlabel : s.me.label = l)
    (hexec : ∀ r : State, r.cfg = s.cfg → exec i r = runSeq acts r) (hread : acts[l]? = some (.rd (mreg p)))
    (hwrite : acts[l + 1]? = some (.wr (mreg p) fun tmp => g tmp.t)) (hlast : l + 2 = acts.length)
    (hclk : clkGpio s = true) : execN i 2 s = .next (s.finish.withModeReg p (g (s.modeReg p))) := by
  have hend : (s.me.afterRead (s.modeReg p)).label + 1 = acts.length := by
    rw [Master.afterRead_label, hlabel, ← hlast]
  rw [execN_mode_pair hs hlabel hexec hread hwrite hclk, Master.proceed_next_of_eq hend, Master.afterRead_finish,
    State.finish_eq, State.withModeReg_setMe]

end

/-- The state between the two halves of a split `set_pin_mode`: the field is clear, the rest of the block as it was. -/
def State.afterClear (s : State) (p : Nat) : State :=
  (s.withModeReg p (s.modeReg p &&& ~~~fmask p)).setMe (s.me.afterPair (s.modeReg p))

section
variable {s : State} {p : Nat}

@[simp] theorem clkGpio_afterClear : clkGpio (s.afterClear p) = clkGpio s := rfl

@[simp] theorem State.modeReg_afterClear : (s.afterClear p).modeReg p = s.modeReg p &&& ~~~fmask p :=
  State.modeReg_withModeReg_self

theorem field_afterClear (hp : p < 16) : field (s.afterClear p) p = 0 := by
  rw [field_eq_extract hp, State.modeReg_afterClear, extract_and_not_fmask]

theorem State.runs_afterClear (hs : s.Runs) : (s.afterClear p).Runs :=
  State.runs_setMe (s := s.withModeReg p _) _ hs

theorem State.me_afterClear (hs : s.Runs) : (s.afterClear p).me = s.me.afterPair (s.modeReg p) :=
  State.me_setMe (s.withModeReg p _) _ hs

theorem State.finish_afterClear (hs : s.Runs) :
    (s.afterClear p).finish = s.finish.withModeReg p (s.modeReg p &&& ~~~fmask p) := by
  rw [afterClear, finish_setMe (s := s.withModeReg p _) _ hs, Master.afterPair_finish, finish_eq, withModeReg_setMe]

end

section
variable {s : State} {p : Nat} (hs : s.AtCall) (hclk : clkGpio s = true) (hp : p < 16) (m : PinMode)
include hs hclk hp

theorem setPinMode_whole (h : s.cfg.pinmodeSplit = false) :
    execN (.setPinMode p m) 2 s = .next (s.finish.withModeReg p (ins s.cfg (s.modeReg p) p m)) := by
  have hexec (t : State) (ht : t.cfg = s.cfg) :=
    ht ▸ exec_setPinMode_whole (s := t) hp m ((congrArg Cfg.pinmodeSplit ht).trans h)
  exact execN_mode_last (g := fun t => ins s.cfg t p m) hs.1 hs.2 hexec rfl rfl rfl hclk

theorem setPinMode_split_clears (h : s.cfg.pinmodeSplit = true) :
    execN (.setPinMode p m) 2 s = .next (s.afterClear p) := by
  have hexec (t : State) (ht : t.cfg = s.cfg) :=
    ht ▸ exec_setPinMode_split (s := t) hp m ((congrArg Cfg.pinmodeSplit ht).trans h)
  exact execN_mode_inner (g := fun t => t &&& ~~~fmask p) hs.1 hs.2 hexec rfl rfl (by simp) hclk

/-- The second half ORs the code into the cleared field, and the two together are one insertion (R97). -/
theorem setPinMode_split (h : s.cfg.pinmodeSplit = true) :
    execN (.setPinMode p m) 4 s = .next (s.finish.withModeReg p (ins s.cfg (s.modeReg p) p m)) := by
  have hfirst := setPinMode_split_clears hs hclk hp m h
  obtain ⟨hruns, hlabel⟩ := hs
  have hexec (t : State) (ht : t.cfg = s.cfg) :=
    ht ▸ exec_setPinMode_split (s := t) hp m ((congrArg Cfg.pinmodeSplit ht).trans h)
  have hlabel₂ : (s.afterClear p).me.label = 2 := by
    rw [State.me_afterClear hruns, Master.afterPair_label, hlabel]
  have hlast := execN_mode_last (g := fun t => t ||| codeAt s.cfg p m) (State.runs_afterClear hruns) hlabel₂ hexec
    rfl rfl rfl (clkGpio_afterClear.trans hclk)
  rw [execN_add (n := 2) hfirst, hlast, State.finish_afterClear hruns, State.modeReg_afterClear,
    State.withModeReg_withModeReg, ins]

/-- A whole `set_pin_mode` with nothing between its steps, in either form. -/
theorem setPinMode_inserts : execN (.setPinMode p m) (setPinModeSteps s.cfg) s =
    .next (s.finish.withModeReg p (ins s.cfg (s.modeReg p) p m)) := by
  cases h : s.cfg.pinmodeSplit with
  | false => rw [setPinModeSteps, h]; exact setPinMode_whole hs hclk hp m h
  | true => rw [setPinModeSteps, h]; exact setPinMode_split hs hclk hp m h

end

/-- Settles O37: in either form the operation is one insertion, and split, its first half clears the field. -/
theorem setPinModeInsertsField : Obligations.SetPinModeInsertsField := by
  intro s p m hs hclk hp
  refine ⟨?_, fun hsplit => ⟨_, setPinMode_split_clears hs hclk hp m hsplit, field_afterClear hp⟩⟩
  rw [setPinMode_inserts hs hclk hp m, State.modeReg]
  split
  · rw [State.withModeReg_of_lt ‹_›]
  · rw [State.withModeReg_of_le (Nat.not_lt.mp ‹_›)]

section
variable {s : State} {p q : Nat} {m : PinMode}

/-- An insertion into the register of pin `p` keeps the field of another pin: it is in the other register, or at
another place of the same one. -/
theorem field_withModeReg_ins_of_ne (hp : p < 16) (hq : q < 16) (h : q ≠ p) (c : Cfg) :
    field (s.withModeReg p (ins c (s.modeReg p) p m)) q = field s q := by
  rw [field_eq_extract hq, field_eq_extract hq]
  by_cases hreg : mreg q = mreg p
  · rw [State.modeReg_congr hreg, State.modeReg_withModeReg_self, State.modeReg_congr hreg,
      extract_ins_of_disjoint (sh_disjoint hp hq hreg h)]
  · rw [State.modeReg_withModeReg_of_ne hreg]

theorem field_withModeReg_ins_self (hp : p < 16) (c : Cfg) (t : Word) :
    field (s.withModeReg p (ins c t p m)) p = enc c m := by
  rw [field_eq_extract hp, State.modeReg_withModeReg_self, extract_ins]

end

/-- Settles O38: the fields of two pins are in different registers or at different places of one. -/
theorem setPinModePreservesOtherPins : Obligations.SetPinModePreservesOtherPins := by
  intro s p m hs hclk hp
  refine ⟨_, setPinMode_inserts hs hclk hp m, fun q hq hne => ?field, fun hlo => ?high, fun hhi => ?low⟩
  case field => exact field_withModeReg_ins_of_ne (s := s.finish) hp hq hne s.cfg
  case high => rw [State.withModeReg_of_lt hlo]; rfl
  case low => rw [State.withModeReg_of_le hhi]; rfl

/-- Settles O39: the register read is the one with the insertion, whose slice at the pin is the code. -/
theorem setPinModeReadsBack : Obligations.SetPinModeReadsBack := by
  intro s p m hs hclk hp
  have hruns : (s.finish.withModeReg p (ins s.cfg (s.modeReg p) p m)).Runs := (State.atCall_finish hs.1).1
  obtain ⟨u, hread, hret⟩ := exec_readOf_ret hruns (busRead_mreg (s := s.finish.withModeReg p _) hclk p)
  refine ⟨_, u, setPinMode_inserts hs hclk hp m, hread, ?_, field_withModeReg_ins_self hp s.cfg _⟩
  rw [hret, State.modeReg_withModeReg_self, extract_ins]

end Sys2Proof.Machine
end

section
/-! `toggle` and `write` with the bank clocked (43_gpio.md R173 to R175): both read `OUT` and write it with one bit
changed. -/

namespace Sys2Proof.Machine

/-- Settles O40: the two steps of a whole `toggle`, the first of which leaves `OUT` alone. -/
theorem toggleFlipsItsBit : Obligations.ToggleFlipsItsBit := by
  intro s p hs hclk hp
  have hreads := toggle_reads hs hclk hp
  exact ⟨_, hreads, s.afterToggleRead_out, exec_of_execN_two (toggle_flips hs hclk hp) hreads⟩

/-- Settles O41: the second `toggle` flips the same bit back. -/
theorem toggleTwiceRestoresOutput : Obligations.ToggleTwiceRestoresOutput := by
  intro s p hs hclk hp
  have hs₁ : (s.afterDraw.finish.withOut (s.out ^^^ (1#16 <<< p))).AtCall :=
    State.atCall_finish (s := s.afterDraw) hs.1
  refine ⟨_, _, toggle_flips hs hclk hp, toggle_flips hs₁ (by simpa using hclk) hp, ?_⟩
  rw [State.withOut_out, State.withOut_out, BitVec.xor_assoc, BitVec.xor_self, BitVec.xor_zero]

/-- The sixteen bits of `OUT` with the bit of pin `p` at a level (R99, R175). -/
def outAtLevel (o : BitVec 16) (p : Nat) : Level → BitVec 16
  | .high => o ||| (1#16 <<< p)
  | .low => o &&& ~~~(1#16 <<< p)

/-- The level as a bit of `OUT` (R99). -/
def levelBit : Level → Bool
  | .high => true
  | .low => false

theorem setLevel_extract (t : Word) (p : Nat) (level : Level) :
    (setLevel t p level).extractLsb' 0 16 = outAtLevel (t.extractLsb' 0 16) p level := by
  cases level with
  | high => rw [setLevel, BitVec.extractLsb'_or, pbit_extract, outAtLevel]
  | low => rw [setLevel, BitVec.extractLsb'_and, BitVec.extractLsb'_not_of_lt (by omega), pbit_extract, outAtLevel]

theorem getLsbD_outAtLevel_self {p : Nat} (hp : p < 16) (o : BitVec 16) (level : Level) :
    (outAtLevel o p level).getLsbD p = levelBit level := by
  cases level <;> simp [outAtLevel, levelBit, hp]

/-- The two steps of `write` with nothing between them. The first is that of `toggle`: the word of `OUT` is read. -/
theorem write_sets {s : State} {p : Nat} (hs : s.AtCall) (hclk : clkGpio s = true) (hp : p < 16) (level : Level) :
    exec (.write p level) s = .next s.afterToggleRead ∧
      exec (.write p level) s.afterToggleRead = .next (s.afterDraw.finish.withOut (outAtLevel s.out p level)) := by
  have hwrite := busWrite_out (s := s.afterToggleRead) hclk (setLevel (outWord s s.anyWord) p level)
  rw [setLevel_extract, outWord_extract] at hwrite
  obtain ⟨hruns, hlabel⟩ := hs
  obtain ⟨hreads, hwrites⟩ := exec_pair (acts := writeActs p level) hruns hlabel (fun t _ => exec_write hp level t)
    rfl rfl (busRead_out hclk) hwrite
  have hend : (s.me.afterRead (outWord s s.anyWord)).label + 1 = (writeActs p level).length := by
    rw [Master.afterRead_label, hlabel]; rfl
  rw [Master.proceed_next_of_eq hend, Master.afterRead_finish] at hwrites
  refine ⟨hreads, hwrites.trans (congrArg Host.Outcome.next ?_)⟩
  exact congrArg (State.withOut · (outAtLevel s.out p level)) (State.setMe_setMe s.afterDraw _ _)

/-- Settles O42: at either level, a read of `OUT` and its write with the bit at that level. -/
theorem writeSetsItsBit : Obligations.WriteSetsItsBit := by
  intro s p hs hclk hp
  have hlevel (level : Level) := write_sets hs hclk hp level
  exact ⟨⟨_, (hlevel .high).1, s.afterToggleRead_out, (hlevel .high).2⟩,
    ⟨_, (hlevel .low).1, s.afterToggleRead_out, (hlevel .low).2⟩⟩

end Sys2Proof.Machine
end

section
/-! Operations that answer a next state in every state and at every label (43_gpio.md R170, R173, R175,
45_text_and_timing.md R208): no action of theirs is a transaction that can be refused. -/

namespace Sys2Proof.Machine

/-- The action answers a next state in every state. -/
def Act.AlwaysSteps (a : Act) : Prop := ∀ len s, ∃ t, runAct len a s = .next t

theorem runSeq_eq_next {acts : List Act} (h : ∀ a ∈ acts, a.AlwaysSteps) (s : State) :
    ∃ t, runSeq acts s = .next t := by
  unfold runSeq
  split
  case h_1 a ha => exact h a (List.mem_of_getElem? ha) acts.length s
  case h_2 => exact ⟨_, rfl⟩

/-- The registers of the GPIO bank, whose transactions are never refused (40_bus_transactions.md R120 to R125). -/
def IsGpioReg (x : Reg) : Prop := x = .modeLo ∨ x = .modeHi ∨ x = .out

theorem isGpioReg_mreg (p : Nat) : IsGpioReg (mreg p) := by
  unfold mreg IsGpioReg
  split <;> simp

theorem Act.alwaysSteps_rd {x : Reg} (hx : IsGpioReg x) : (Act.rd x).AlwaysSteps := by
  intro len s
  rcases hx with rfl | rfl | rfl <;> exact ⟨_, rfl⟩

theorem Act.alwaysSteps_wr {x : Reg} (hx : IsGpioReg x) (f : Temps → Word) : (Act.wr x f).AlwaysSteps := by
  intro len s
  rcases hx with rfl | rfl | rfl <;> exact ⟨_, rfl⟩

theorem Act.alwaysSteps_own (f : Temps → Temps × Flow) : (Act.own f).AlwaysSteps := fun _ _ => ⟨_, rfl⟩

/-- A read and a write of one register of the bank, as the pin operations are built of. -/
theorem alwaysSteps_pair {x : Reg} (hx : IsGpioReg x) (f : Temps → Word) : ∀ a ∈ [Act.rd x, .wr x f], a.AlwaysSteps :=
  List.forall_mem_cons.mpr ⟨Act.alwaysSteps_rd hx, List.forall_mem_singleton.mpr (Act.alwaysSteps_wr hx f)⟩

theorem alwaysSteps_setPinModeActs (c : Cfg) (p : Nat) (m : PinMode) :
    ∀ a ∈ setPinModeActs c p m, a.AlwaysSteps := by
  have hpair (f : Temps → Word) := alwaysSteps_pair (isGpioReg_mreg p) f
  unfold setPinModeActs
  split
  case isTrue => exact List.forall_mem_append.mpr ⟨hpair fun tmp => tmp.t &&& ~~~fmask p, hpair _⟩
  case isFalse => exact hpair _

/-- Settles O44: the pin operations touch registers of the bank alone, and `busy_wait` none. -/
theorem localOperationsAlwaysStep : Obligations.LocalOperationsAlwaysStep := by
  intro s p m level k hp
  have hout : IsGpioReg .out := .inr (.inr rfl)
  refine ⟨?setPinMode, ?toggle, ?write, ?busyWait⟩
  case setPinMode => rw [exec_setPinMode hp]; exact runSeq_eq_next (alwaysSteps_setPinModeActs s.cfg p m) s
  case toggle => rw [exec_toggle hp]; exact runSeq_eq_next (alwaysSteps_pair hout _) s
  case write => rw [exec_write hp]; exact runSeq_eq_next (alwaysSteps_pair hout _) s
  case busyWait =>
    have hown : ∀ a ∈ busyWaitActs k, a.AlwaysSteps :=
      List.forall_mem_cons.mpr ⟨Act.alwaysSteps_own _, List.forall_mem_singleton.mpr (Act.alwaysSteps_own _)⟩
    exact runSeq_eq_next hown s

end Sys2Proof.Machine
end

section
/-! An output pin from reset on (43_gpio.md R176): once its bank is clocked and its mode is output push-pull, the pin
is driven to the level last written, and `OUT` reads back that level. -/

namespace Sys2Proof.Machine

/-- The bank answers, the master is at a call, and the run is clean: what the operations on pins start from. -/
structure State.BankReady (s : State) : Prop where
  atCall : s.AtCall
  clocked : clkGpio s = true
  cfg_valid : s.cfg.Valid
  clean : s.viol = false

/-- The bank is ready and pin `p` is an output. -/
structure State.OutputReady (s : State) (p : Nat) : Prop extends s.BankReady where
  mode : field s p = enc s.cfg .outPp

/-- Right after reset, one `enable_clock` makes the bank ready, because nothing settles (R35, R165). -/
theorem enableClock_bankReady {c : Cfg} (hc : c.Valid) (hmode : c.settleMode = .none) :
    ∃ t, execN (.enableClock .gpio) 2 (State.resetWith c) = .next t ∧ t.BankReady ∧ t.cfg = c := by
  have hs : (State.resetWith c).AtCall := ⟨Nat.succ_pos _, rfl⟩
  refine ⟨_, execN_two (enableClock_reads hs .gpio) (enableClock_writes_after_read hc hs .gpio), ?_, rfl⟩
  have hsettled : ((State.resetWith c).finish.withClock .gpio).settlingGpio = false := by
    simp [State.withClock, State.resetWith, State.finish_eq, hmode]
  have hbit : ((State.resetWith c).finish.withClock .gpio).clken.getLsbD c.clkBitGpio = true := by
    rw [State.withClock, BitVec.getLsbD_or]
    exact Bool.or_eq_true_iff.mpr (.inr (getLsbD_clkMask_self c .gpio))
  exact
    { atCall := State.atCall_finish hs.1
      clocked := (clkGpio_of_settled hsettled).trans hbit
      cfg_valid := hc
      clean := rfl }

section
variable {s : State} {p : Nat}

theorem State.BankReady.setPinMode_outputReady (h : s.BankReady) (hp : p < 16) :
    ∃ t, execN (.setPinMode p .outPp) (setPinModeSteps s.cfg) s = .next t ∧ t.OutputReady p :=
  ⟨_, setPinMode_inserts h.atCall h.clocked hp .outPp,
    { atCall := State.atCall_finish h.atCall.1
      clocked := h.clocked
      cfg_valid := h.cfg_valid
      clean := h.clean
      mode := field_withModeReg_ins_self hp s.cfg _ }⟩

/-- An output pin is driven to its bit of `OUT` (10_state.md R44). -/
theorem State.OutputReady.pinOut_eq (h : s.OutputReady p) : pinOut s p = .driven (s.out.getLsbD p) :=
  pinOut_of_field_eq_enc h.cfg_valid h.clocked h.mode

theorem State.OutputReady.write (h : s.OutputReady p) (hp : p < 16) (level : Level) :
    ∃ t, execN (.write p level) 2 s = .next t ∧ t.OutputReady p ∧ t.out.getLsbD p = levelBit level := by
  obtain ⟨hreads, hwrites⟩ := write_sets h.atCall h.clocked hp level
  exact ⟨_, execN_two hreads hwrites,
    { atCall := State.atCall_finish (s := s.afterDraw) h.atCall.1
      clocked := h.clocked
      cfg_valid := h.cfg_valid
      clean := h.clean
      mode := h.mode }, getLsbD_outAtLevel_self hp s.out level⟩

theorem getLsbD_outWord (hp : p < 16) (any : Word) : (outWord s any).getLsbD p = s.out.getLsbD p := by
  rw [← outWord_extract s any, BitVec.getLsbD_extractLsb', decide_eq_true hp, Bool.true_and, Nat.zero_add]

theorem State.OutputReady.readOut (h : s.OutputReady p) (hp : p < 16) :
    ∃ t, exec .rdOut s = .next t ∧ t.OutputReady p ∧ t.me.ret.getLsbD p = s.out.getLsbD p := by
  have hruns : s.afterDraw.Runs := h.atCall.1
  refine ⟨_, exec_readOf_of_ok (x := .out) (busRead_out h.clocked), ?_, ?_⟩
  · exact
      { atCall := State.atCall_finishWith hruns _
        clocked := h.clocked
        cfg_valid := h.cfg_valid
        clean := h.clean
        mode := h.mode }
  · rw [State.finishWith_eq, State.me_setMe _ _ hruns]
    exact getLsbD_outWord hp s.anyWord

end

/-- Settles O46: each operation leaves the pin a ready output, driven to its bit of `OUT`, which the read returns. -/
theorem outputPinEndToEnd : Obligations.OutputPinEndToEnd := by
  intro c p hc hmode hp
  obtain ⟨s₁, hclock, hbank, rfl⟩ := enableClock_bankReady hc hmode
  obtain ⟨s₂, hset, hready₂⟩ := hbank.setPinMode_outputReady hp
  obtain ⟨s₃, hhigh, hready₃, hout₃⟩ := hready₂.write hp .high
  obtain ⟨s₄, hread₄, hready₄, hret₄⟩ := hready₃.readOut hp
  obtain ⟨s₅, hlow, hready₅, hout₅⟩ := hready₄.write hp .low
  obtain ⟨s₆, hread₆, hready₆, hret₆⟩ := hready₅.readOut hp
  exact ⟨s₁, s₂, s₃, s₄, s₅, s₆, hclock, hset, hhigh, hready₃.pinOut_eq.trans (congrArg PinOut.driven hout₃), hread₄,
    hret₄.trans hout₃, hlow, hready₅.pinOut_eq.trans (congrArg PinOut.driven hout₅), hread₆, hret₆.trans hout₅,
    hready₆.clean⟩

end Sys2Proof.Machine
end

section
/-! A driver sequence with no other agent between its actions (10_state.md R39, R40): each action takes one step, and
what is left of the sequence gets shorter by it. -/

namespace Sys2Proof.Machine

/-- From `s`, `n` steps of operation `i` leave the block as that of `u`, with the running master before the actions
`rest` of its sequence `acts`. What it holds in its temporaries is left open, because the end of the operation drops
it. -/
structure State.Reaches (s : State) (i : Instr) (acts rest : List Act) (n : Nat) (u : State) : Prop where
  steps : ∃ m, execN i n s = .next (u.setMe m) ∧ acts.drop m.label = rest ∧ m.finish = s.me.finish
  runs : u.Runs
  cfg : u.cfg = s.cfg

/-- At the call, the whole sequence is to come. -/
theorem State.AtCall.reaches {s : State} (hs : s.AtCall) (i : Instr) {acts rest : List Act} (h : acts = rest) :
    s.Reaches i acts rest 0 s where
  steps := ⟨s.me, by rw [setMe_me]; rfl, by rw [hs.2, List.drop_zero, h], rfl⟩
  runs := hs.1
  cfg := rfl

/-- The block with pin `p` in mode `m`. -/
def State.withPinMode (s : State) (p : Nat) (m : PinMode) : State := s.withModeReg p (ins s.cfg (s.modeReg p) p m)

/-- One more step of an operation. -/
theorem execN_succ {i : Instr} {n : Nat} {s t u : State} (h : execN i n s = .next t) (hstep : exec i t = .next u) :
    execN i (n + 1) s = .next u := by
  rw [execN_add h]
  simp only [execN, hstep]

/-- A run of an operation has a first step. -/
theorem exec_of_execN_pos {i : Instr} {n : Nat} {s t : State} (hn : 0 < n) (h : execN i n s = .next t) :
    ∃ u, exec i s = .next u := by
  obtain ⟨k, rfl⟩ := Nat.exists_eq_add_of_lt hn
  simp only [Nat.zero_add, execN] at h
  split at h
  · exact ⟨_, ‹_›⟩
  · cases h
  · cases h

section
variable {s u w : State} {i : Instr} {acts rest : List Act} {a : Act} {n l : Nat} {x : Reg} {v : Word}

theorem getElem?_of_drop_eq_cons (h : acts.drop l = a :: rest) : acts[l]? = some a := by
  rw [← Nat.add_zero l, ← List.getElem?_drop, h, List.getElem?_cons_zero]

theorem drop_succ_of_drop_eq_cons (h : acts.drop l = a :: rest) : acts.drop (l + 1) = rest := by
  rw [← List.drop_drop, h, List.drop_one, List.tail_cons]

/-- An action with others to come is not the last. -/
theorem succ_lt_length_of_drop_eq_cons (h : acts.drop l = a :: rest) (hrest : rest ≠ []) : l + 1 < acts.length := by
  rw [← drop_succ_of_drop_eq_cons h, Ne, List.drop_eq_nil_iff] at hrest
  exact Nat.not_le.mp hrest

theorem succ_eq_length_of_drop_eq_singleton (h : acts.drop l = [a]) : l + 1 = acts.length := by
  have hlt := (List.getElem?_eq_some_iff.mp (getElem?_of_drop_eq_cons h)).1
  have hle := List.drop_eq_nil_iff.mp (drop_succ_of_drop_eq_cons h)
  omega

/-- A write that is accepted whatever the masters' records are. -/
theorem write_ok_runs_cfg (hu : u.Runs) (hw : ∀ m, busWrite x v (u.setMe m) = .ok (w.setMe m)) :
    w.Runs ∧ w.cfg = u.cfg := by
  have hstep := busWrite_cases (hw u.me)
  have hruns := hstep.runs (State.runs_setMe _ hu)
  rw [State.Runs, State.setMe_masters_length] at hruns
  exact ⟨hruns, hstep.grows.cfg⟩

variable (hexec : ∀ r : State, r.cfg = s.cfg → exec i r = runSeq acts r)
include hexec

/-- A master that stands before an action takes it. -/
theorem State.Reaches.exec_eq_runAct {m : Master} (h : s.Reaches i acts (a :: rest) n u)
    (hm : acts.drop m.label = a :: rest) : exec i (u.setMe m) = runAct acts.length a (u.setMe m) := by
  refine (hexec (u.setMe m) h.cfg).trans (runSeq_of_label ?_)
  rw [State.me_setMe _ _ h.runs]
  exact getElem?_of_drop_eq_cons hm

/-- A write is one step, which leaves the master past it. -/
theorem State.Reaches.exec_write {m : Master} (h : s.Reaches i acts (.wr x (fun _ => v) :: rest) n u)
    (hm : acts.drop m.label = .wr x (fun _ => v) :: rest)
    (hw : ∀ m, busWrite x v (u.setMe m) = .ok (w.setMe m)) :
    exec i (u.setMe m) = .next (w.setMe (m.proceed acts.length .next)) := by
  rw [h.exec_eq_runAct hexec hm, runAct_wr (hw m), State.me_setMe _ _ h.runs, State.setMe_setMe]

/-- A write with more actions to come. -/
theorem State.Reaches.write (h : s.Reaches i acts (.wr x (fun _ => v) :: rest) n u) (hrest : rest ≠ [])
    (hw : ∀ m, busWrite x v (u.setMe m) = .ok (w.setMe m)) : s.Reaches i acts rest (n + 1) w := by
  obtain ⟨m, hsteps, hdrop, hfinish⟩ := h.steps
  obtain ⟨hruns, hcfg⟩ := write_ok_runs_cfg h.runs hw
  have hstep := h.exec_write hexec hdrop hw
  rw [Master.proceed_next_of_lt (succ_lt_length_of_drop_eq_cons hdrop hrest)] at hstep
  exact
    { steps := ⟨{ m with label := m.label + 1 }, execN_succ hsteps hstep, drop_succ_of_drop_eq_cons hdrop, hfinish⟩
      runs := hruns
      cfg := hcfg.trans h.cfg }

/-- The write that ends the operation. -/
theorem State.Reaches.last (h : s.Reaches i acts [.wr x (fun _ => v)] n u)
    (hw : ∀ m, busWrite x v (u.setMe m) = .ok (w.setMe m)) : execN i (n + 1) s = .next (w.setMe s.me.finish) := by
  obtain ⟨m, hsteps, hdrop, hfinish⟩ := h.steps
  have hstep := h.exec_write hexec hdrop hw
  rw [Master.proceed_next_of_eq (succ_eq_length_of_drop_eq_singleton hdrop), hfinish] at hstep
  exact execN_succ hsteps hstep

/-- A write that is refused ends the run, with the block as it is before the write. -/
theorem State.Reaches.refused {r : Refusal} (h : s.Reaches i acts (.wr x (fun _ => v) :: rest) n u)
    (hw : ∀ m, busWrite x v (u.setMe m) = .error r) :
    ∃ m, execN i n s = .next (u.setMe m) ∧ exec i (u.setMe m) = .refused r := by
  obtain ⟨m, hsteps, hdrop, -⟩ := h.steps
  exact ⟨m, hsteps, by rw [h.exec_eq_runAct hexec hdrop]; simp only [runAct, hw]⟩

/-- A read that leaves the block as it is and the write of the word `g` makes of the one read, with more actions to
come. -/
theorem State.Reaches.pair {g : Word → Word}
    (h : s.Reaches i acts (.rd x :: .wr x (fun tmp => g tmp.t) :: rest) n u) (hrest : rest ≠ [])
    (hr : ∀ m, busRead x (u.setMe m) = .ok (v, u.setMe m))
    (hw : ∀ m, busWrite x (g v) (u.setMe m) = .ok (w.setMe m)) : s.Reaches i acts rest (n + 2) w := by
  obtain ⟨m, hsteps, hdrop, hfinish⟩ := h.steps
  obtain ⟨hruns, hcfg⟩ := write_ok_runs_cfg h.runs hw
  have hdrop₁ : acts.drop (m.label + 1) = _ := drop_succ_of_drop_eq_cons hdrop
  have hme : (u.setMe m).me = m := State.me_setMe _ _ h.runs
  obtain ⟨hread, hwrite⟩ := exec_pair (s := u.setMe m) (u := w.setMe (m.afterRead v)) (f := fun tmp => g tmp.t)
    (State.runs_setMe _ h.runs) (by rw [hme]) (fun r hr => hexec r (hr.trans h.cfg))
    (getElem?_of_drop_eq_cons hdrop) (getElem?_of_drop_eq_cons hdrop₁) (hr m)
    (by rw [hme, State.setMe_setMe]; exact hw _)
  have hlt : (m.afterRead v).label + 1 < acts.length := succ_lt_length_of_drop_eq_cons hdrop₁ hrest
  rw [hme, Master.proceed_next_of_lt hlt, State.setMe_setMe w] at hwrite
  rw [hme] at hread
  exact
    { steps := ⟨m.afterPair v, (execN_add hsteps 2).trans (execN_two hread hwrite),
        drop_succ_of_drop_eq_cons hdrop₁, hfinish⟩
      runs := hruns
      cfg := hcfg.trans h.cfg }

/-- `enable_clock` as a part of a sequence (42_clock_gate.md R165). -/
theorem State.Reaches.enableClock {which : Periph} (hc : s.cfg.Valid)
    (h : s.Reaches i acts (enableClockActs s.cfg which ++ rest) n u) (hrest : rest ≠ []) :
    s.Reaches i acts rest (n + 2) (u.withClock which) := by
  have hcfg := h.cfg
  rw [← hcfg] at h hc
  exact h.pair hexec hrest (g := fun t => t ||| clkMask u.cfg which) (fun m => busRead_clken (u.setMe m))
    fun m => busWrite_clken_or_clkMask (s := u.setMe m) hc which

/-- `set_pin_mode` as a part of a sequence, in either form one insertion (43_gpio.md R170). -/
theorem State.Reaches.setPinMode {p : Nat} {mode : PinMode} (hclk : clkGpio u = true)
    (h : s.Reaches i acts (setPinModeActs s.cfg p mode ++ rest) n u) (hrest : rest ≠ []) :
    s.Reaches i acts rest (n + setPinModeSteps s.cfg) (u.withPinMode p mode) := by
  have hcfg := h.cfg
  rw [← hcfg, setPinModeActs] at h
  rw [← hcfg, setPinModeSteps]
  split at h
  case isTrue hsplit =>
    have hclear := h.pair hexec (w := u.withModeReg p (u.modeReg p &&& ~~~fmask p)) (g := fun t => t &&& ~~~fmask p)
      (List.cons_ne_nil _ _) (fun m => busRead_mreg (s := u.setMe m) hclk p)
      fun m => busWrite_mreg (s := u.setMe m) hclk p _
    have hset := hclear.pair hexec (v := (u.withModeReg p _).modeReg p) (w := (u.withModeReg p _).withModeReg p _)
      (g := fun t => t ||| codeAt u.cfg p mode) hrest
      (fun m => busRead_mreg (s := (u.withModeReg p _).setMe m) hclk p)
      fun m => busWrite_mreg (s := (u.withModeReg p _).setMe m) hclk p _
    rw [State.modeReg_withModeReg_self, State.withModeReg_withModeReg] at hset
    rw [if_pos hsplit]
    exact hset
  case isFalse hwhole =>
    rw [if_neg hwhole]
    exact h.pair hexec hrest (g := fun t => ins u.cfg t p mode) (fun m => busRead_mreg (s := u.setMe m) hclk p)
      fun m => busWrite_mreg (s := u.setMe m) hclk p _

end

end Sys2Proof.Machine
end

section
/-! `uart_init` (44_uart.md R185 to R187): both clocks, the modes of the two pins, the divisor, the enables. -/

namespace Sys2Proof.Machine

theorem exec_uartInit {baud : Word} (h : baud ≠ 0) (clk : Word) (s : State) :
    exec (.uartInit baud clk) s = runSeq (uartInitActs s.cfg baud clk) s :=
  if_pos (bne_iff_ne.mpr h)

/-- The parts of the sequence (R185, `L1` to `L6`). -/
theorem uartInitActs_eq (c : Cfg) (baud clk : Word) : uartInitActs c baud clk =
    enableClockActs c .uart ++ (enableClockActs c .gpio ++ (setPinModeActs c c.uartTxPin .afPp ++
      (setPinModeActs c c.uartRxPin .inFloat ++
        [.wr .baud fun _ => divisor clk baud, .wr .ctrl fun _ => ctrlEn c]))) := by
  simp only [uartInitActs, List.append_assoc]

theorem divisor_toNat (clk baud : Word) : (divisor clk baud).toNat = clk.toNat / baud.toNat := BitVec.toNat_udiv

/-- The block with both clocks enabled. -/
def State.withClocks (s : State) : State := (s.withClock .uart).withClock .gpio

/-- The block when `uart_init` comes to the write of `BAUD`. -/
def State.withPinsReady (s : State) : State :=
  (s.withClocks.withPinMode s.cfg.uartTxPin .afPp).withPinMode s.cfg.uartRxPin .inFloat

section
variable {s : State}

theorem State.Settled.withClock (h : s.Settled) (which : Periph) :
    s.withClock which = { s with clken := s.clken ||| clkMask s.cfg which } := by
  obtain ⟨hmode, -, -⟩ := h
  simp [State.withClock, hmode]

theorem State.Settled.withClocks (h : s.Settled) :
    s.withClocks = { s with clken := s.clken ||| clkMask s.cfg .uart ||| clkMask s.cfg .gpio } := by
  rw [State.withClocks, h.withClock]
  exact State.Settled.withClock (s := { s with clken := s.clken ||| clkMask s.cfg .uart }) h .gpio

theorem State.Settled.clkGpio_withClocks (h : s.Settled) : clkGpio s.withClocks = true := by
  rw [h.withClocks, clkGpio_of_settled (by exact h.2.1), BitVec.getLsbD_or]
  exact Bool.or_eq_true_iff.mpr (.inr (getLsbD_clkMask_self s.cfg .gpio))

theorem State.Settled.clkUart_withClocks (h : s.Settled) : clkUart s.withClocks = true := by
  rw [h.withClocks, clkUart_of_settled (by exact h.2.2), BitVec.getLsbD_or, BitVec.getLsbD_or]
  exact Bool.or_eq_true_iff.mpr (.inl (Bool.or_eq_true_iff.mpr (.inr (getLsbD_clkMask_self s.cfg .uart))))

theorem State.Settled.withPinsReady (h : s.Settled) : s.withPinsReady = { s with
    clken := s.clken ||| clkMask s.cfg .uart ||| clkMask s.cfg .gpio
    modeLo := s.withPinsReady.modeLo, modeHi := s.withPinsReady.modeHi } := by
  rw [State.withPinsReady, h.withClocks]
  rfl

theorem uartPins_distinct {c : Cfg} (hc : c.Valid) : c.uartTxPin.val ≠ c.uartRxPin.val := by
  obtain ⟨-, -, -, -, -, -, hpins, -⟩ := hc
  exact Fin.val_ne_of_ne hpins

theorem field_withPinMode_of_ne {p q : Nat} {m : PinMode} (hp : p < 16) (hq : q < 16) (h : q ≠ p) :
    field (s.withPinMode p m) q = field s q :=
  field_withModeReg_ins_of_ne hp hq h s.cfg

theorem field_withPinMode_self {p : Nat} {m : PinMode} (hp : p < 16) : field (s.withPinMode p m) p = enc s.cfg m :=
  field_withModeReg_ins_self hp s.cfg _

theorem field_withPinsReady_tx (hc : s.cfg.Valid) : field s.withPinsReady s.cfg.uartTxPin = s.cfg.encAfPp := by
  rw [State.withPinsReady, field_withPinMode_of_ne (Fin.isLt _) (Fin.isLt _) (uartPins_distinct hc),
    field_withPinMode_self (Fin.isLt _)]
  rfl

theorem field_withPinsReady_rx : field s.withPinsReady s.cfg.uartRxPin = s.cfg.encInFloat :=
  field_withPinMode_self (Fin.isLt _)

theorem field_withPinsReady_other {q : Nat} (hq : q < 16) (htx : q ≠ s.cfg.uartTxPin.val)
    (hrx : q ≠ s.cfg.uartRxPin.val) : field s.withPinsReady q = field s q := by
  rw [State.withPinsReady, field_withPinMode_of_ne (Fin.isLt _) hq hrx, field_withPinMode_of_ne (Fin.isLt _) hq htx]
  rfl

/-- The steps before the write of `BAUD`: two clocks and two pins. -/
theorem uartInit_reaches_baud {baud : Word} (hc : s.cfg.Valid) (hs : s.AtCall) (hset : s.Settled) (hbaud : baud ≠ 0)
    (clk : Word) :
    s.Reaches (.uartInit baud clk) (uartInitActs s.cfg baud clk)
      [.wr .baud fun _ => divisor clk baud, .wr .ctrl fun _ => ctrlEn s.cfg] (if s.cfg.pinmodeSplit then 12 else 8)
      s.withPinsReady := by
  have hexec (r : State) (hr : r.cfg = s.cfg) := hr ▸ exec_uartInit hbaud clk r
  have hstart := hs.reaches (.uartInit baud clk) (uartInitActs_eq s.cfg baud clk)
  have huart := hstart.enableClock hexec hc (by simp)
  have hgpio := huart.enableClock (which := .gpio) hexec hc (by simp)
  have htx := hgpio.setPinMode (p := s.cfg.uartTxPin) (mode := .afPp) hexec hset.clkGpio_withClocks (by simp)
  have hclk : clkGpio (s.withClocks.withPinMode s.cfg.uartTxPin .afPp) = true := hset.clkGpio_withClocks
  have hrx := htx.setPinMode (p := s.cfg.uartRxPin) (mode := .inFloat) hexec hclk (by simp)
  have hcount : 0 + 2 + 2 + setPinModeSteps s.cfg + setPinModeSteps s.cfg = if s.cfg.pinmodeSplit then 12 else 8 := by
    unfold setPinModeSteps
    split <;> rfl
  rw [← hcount]
  exact hrx

end

/-- Settles O49: the divisor the sequence comes to write is out of range, and neither register was written before. -/
theorem uartInitRefusesBadDivisor : Obligations.UartInitRefusesBadDivisor := by
  intro s baud clk hc hs hset hbaud hout
  rw [← divisor_toNat] at hout
  have hbad : baudValueOk s.cfg (divisor clk baud) = false :=
    baudValueOk_eq_false (hout.imp_left fun h => BitVec.eq_of_toNat_eq h)
  obtain ⟨m, hsteps, hrefused⟩ := (uartInit_reaches_baud hc hs hset hbaud clk).refused
    (fun r hr => hr ▸ exec_uartInit hbaud clk r) fun m => busWrite_baud_range (s := s.withPinsReady.setMe m) hbad
  exact ⟨_, hsteps, hrefused, rfl, rfl⟩

section
variable {s : State}

/-- The block after `uart_init`. -/
def State.withUartReady (s : State) (d : Word) : State :=
  { s.withPinsReady with baud := d, baudValid := true, ctrl := { re := true, te := true, ue := true } }

theorem ctrlOf_ctrlEn (c : Cfg) : ctrlOf c (ctrlEn c) = { re := true, te := true, ue := true } := by
  have hre : (ctrlEn c).getLsbD c.ctrlRe = true := (getLsbD_ctrlEn c _).mpr (.inl rfl)
  have hte : (ctrlEn c).getLsbD c.ctrlTe = true := (getLsbD_ctrlEn c _).mpr (.inr (.inl rfl))
  have hue : (ctrlEn c).getLsbD c.ctrlUe = true := (getLsbD_ctrlEn c _).mpr (.inr (.inr rfl))
  rw [ctrlOf, hre, hte, hue]

theorem configured_iff : configured s = true ↔ clkUart s = true ∧ clkGpio s = true ∧ s.baudValid = true ∧
    s.ctrl = { re := true, te := true, ue := true } ∧ field s s.cfg.uartTxPin = s.cfg.encAfPp ∧
    field s s.cfg.uartRxPin = s.cfg.encInFloat := by
  simp [configured, and_assoc]

/-- The sequence sets all that `Configured` asks for (R187, 10_state.md R38). -/
theorem configured_withUartReady (hc : s.cfg.Valid) (hset : s.Settled) (d : Word) :
    configured (s.withUartReady d) = true := by
  have hgpio : clkGpio (s.withUartReady d) = true := hset.clkGpio_withClocks
  have huart : clkUart (s.withUartReady d) = true := hset.clkUart_withClocks
  have htx : field (s.withUartReady d) s.cfg.uartTxPin = s.cfg.encAfPp := field_withPinsReady_tx hc
  have hrx : field (s.withUartReady d) s.cfg.uartRxPin = s.cfg.encInFloat := field_withPinsReady_rx
  exact configured_iff.mpr ⟨huart, hgpio, rfl, rfl, htx, hrx⟩

/-- The whole sequence, with empty buffers and a divisor in range. -/
theorem uartInit_runs {baud clk : Word} (hc : s.cfg.Valid) (hs : s.AtCall) (hset : s.Settled) (htx : s.txbuf = none)
    (hrx : s.rxbuf = none) (hbaud : baud ≠ 0) (hv : baudValueOk s.cfg (divisor clk baud) = true) :
    execN (.uartInit baud clk) (if s.cfg.pinmodeSplit then 14 else 10) s =
      .next ((s.withUartReady (divisor clk baud)).setMe s.me.finish) := by
  have hexec (r : State) (hr : r.cfg = s.cfg) := hr ▸ exec_uartInit hbaud clk r
  have hclk : clkUart s.withPinsReady = true := hset.clkUart_withClocks
  have hfree : bufferOccupied s.withPinsReady = false := bufferOccupied_eq_false htx hrx
  have hstored := (uartInit_reaches_baud hc hs hset hbaud clk).write hexec
    (w := { s.withPinsReady with baud := divisor clk baud, baudValid := true }) (List.cons_ne_nil _ _)
    fun m => busWrite_baud_stored (s := s.withPinsReady.setMe m) hv hclk hfree
  have hvalue : ctrlValueOk s.cfg (ctrlEn s.cfg) = true := ctrlValueOk_iff.mpr fun i => (getLsbD_ctrlEn s.cfg i).mp
  have hcount : (if s.cfg.pinmodeSplit then 14 else 10) = (if s.cfg.pinmodeSplit then 12 else 8) + 1 + 1 := by
    split <;> rfl
  rw [hcount]
  refine hstored.last hexec (w := s.withUartReady (divisor clk baud)) fun m => ?_
  rw [State.withUartReady, ← ctrlOf_ctrlEn s.cfg]
  exact busWrite_ctrl_stored hvalue hclk (.inr hfree)

end

/-- Settles O48: the sequence runs to its end without a refusal, and each part of it changes its own registers alone. -/
theorem uartInitConfigures : Obligations.UartInitConfigures := by
  intro s baud clk hc hs hset htx hrx hbaud hpos hlt
  rw [← divisor_toNat] at hpos hlt
  have hruns := uartInit_runs hc hs hset htx hrx hbaud (baudValueOk_iff.mpr ⟨hpos, hlt⟩)
  refine ⟨?first, _, hruns, ?configured, divisor_toNat clk baud, ?fields, ?frame⟩
  case first => exact exec_of_execN_pos (by split <;> decide) hruns
  case configured => exact configured_withUartReady hc hset (divisor clk baud)
  case fields => exact fun q hq htxp hrxp => field_withPinsReady_other hq htxp hrxp
  case frame =>
    rw [State.withUartReady, hset.withPinsReady]
    rfl

end Sys2Proof.Machine
end

section
/-! The call and the poll of a transport operation (44_uart.md R190 to R194). -/

namespace Sys2Proof.Machine

/-- A master past the call of a transport operation, with what it found there (10_state.md R42). -/
def Master.afterCall (m : Master) (entered : Bool) : Master :=
  { m with label := m.label + 1, tmp := { m.tmp with entered := entered } }

@[simp] theorem Master.afterCall_label (m : Master) (b : Bool) : (m.afterCall b).label = m.label + 1 := rfl
@[simp] theorem Master.afterCall_finish (m : Master) (b : Bool) : (m.afterCall b).finish = m.finish := rfl

/-- A master that polls once more, with the word of `STAT` in `t`. -/
def Master.afterPoll (m : Master) (v : Word) : Master := { m with tmp := { m.tmp with t := v } }

@[simp] theorem Master.afterPoll_label (m : Master) (v : Word) : (m.afterPoll v).label = m.label := rfl
@[simp] theorem Master.afterPoll_finish (m : Master) (v : Word) : (m.afterPoll v).finish = m.finish := rfl

theorem Master.proceed_stay_of_lt {m : Master} {len : Nat} (h : m.label < len) : m.proceed len .stay = m := if_pos h

/-- The block after the call: a violation unless the UART is `Configured` (R193). -/
def State.called (s : State) : State := { s with viol := s.viol || !configured s }

theorem State.called_of_configured {s : State} (h : configured s = true) : s.called = s := by
  simp [called, h]

theorem State.called_of_not_configured {s : State} (h : configured s = false) : s.called = s.violate := by
  simp [called, violate, h]

/-- The status flag a poll waits for (10_state.md R41). -/
def flagSet (s : State) : StatFlag → Bool
  | .txe => flagTxe s
  | .rxne => flagRxne s

theorem configured_uartOn {s : State} (h : configured s = true) : uartOn s = true := by
  obtain ⟨hclk, -, -, hctrl, -⟩ := configured_iff.mp h
  rw [uartOn, hclk, hctrl]
  rfl

section
variable {s : State} {len : Nat} {flag : StatFlag}

theorem runAct_call (hs : s.Runs) (hlen : s.me.label + 1 < len) :
    runAct len .call s = .next (s.called.setMe (s.me.afterCall (configured s))) := by
  have hcalled : (if configured s then s else s.violate) = s.called := by
    split
    case isTrue h => exact (State.called_of_configured h).symm
    case isFalse h => exact (State.called_of_not_configured (Bool.eq_false_iff.mpr h)).symm
  have hme : (s.called.setEntered (configured s)).me = { s.me with tmp := { s.me.tmp with entered := configured s } } :=
    State.me_setMe s.called _ hs
  simp only [runAct, hcalled, State.proceed_eq, hme]
  rw [Master.proceed_next_of_lt (by exact hlen), State.setEntered_eq, State.setMe_setMe]
  rfl

theorem readStat_of_uartOn (h : uartOn s = true) : readStat s = (statWord s s.anyWord, s.afterDraw) := by
  have hclk : clkUart s = true := (Bool.and_eq_true_iff.mp h).2
  simp [readStat, hclk, h]

theorem getLsbD_statWord_flagBit (hc : s.cfg.Valid) (any : Word) :
    (statWord s any).getLsbD (flagBit s.cfg flag) = flagSet s flag := by
  cases flag with
  | txe => exact getLsbD_statWord_txe hc any
  | rxne => exact getLsbD_statWord_rxne hc any

/-- A poll goes on exactly if it finds its flag set. -/
theorem runAct_poll (hc : s.cfg.Valid) (hs : s.Runs) (hon : uartOn s = true) :
    runAct len (.poll flag) s = .next (s.afterDraw.setMe ((s.me.afterPoll (statWord s s.anyWord)).proceed len
      (if flagSet s flag then .next else .stay))) := by
  have hme : (s.afterDraw.setT (statWord s s.anyWord)).me = s.me.afterPoll (statWord s s.anyWord) :=
    State.me_setMe s.afterDraw _ hs
  simp only [runAct, readStat_of_uartOn hon, getLsbD_statWord_flagBit hc, State.proceed_eq, hme]
  rw [State.setT_eq, State.setMe_setMe]

theorem runAct_poll_set (hc : s.cfg.Valid) (hs : s.Runs) (hon : uartOn s = true) (hlen : s.me.label + 1 < len)
    (hflag : flagSet s flag = true) :
    runAct len (.poll flag) s = .next (s.afterDraw.setMe (s.me.afterRead (statWord s s.anyWord))) := by
  rw [runAct_poll hc hs hon, hflag, if_pos rfl, Master.proceed_next_of_lt (by exact hlen)]
  rfl

theorem runAct_poll_clear (hc : s.cfg.Valid) (hs : s.Runs) (hon : uartOn s = true) (hlen : s.me.label < len)
    (hflag : flagSet s flag = false) :
    runAct len (.poll flag) s = .next (s.afterDraw.setMe (s.me.afterPoll (statWord s s.anyWord))) := by
  rw [runAct_poll hc hs hon, hflag, if_neg Bool.false_ne_true, Master.proceed_stay_of_lt (by exact hlen)]

end

/-- The operations of the UART transport (10_state.md R42). -/
def IsTransport (i : Instr) : Prop :=
  (∃ b, i = .sendByte b) ∨ i = .recvByte ∨ (∃ str, i = .sendString str) ∨ ∃ n, i = .sendUnsignedDecimal n

/-- Every transport operation begins with the check of the call. -/
theorem exec_transport_call {i : Instr} {s : State} (hs : s.AtCall) (hwf : i.wellFormed = true) (hi : IsTransport i) :
    exec i s = .next (s.called.setMe (s.me.afterCall (configured s))) := by
  have hseq : ∃ a rest, exec i s = runSeq (.call :: a :: rest) s := by
    rcases hi with ⟨b, rfl⟩ | rfl | ⟨str, rfl⟩ | ⟨n, rfl⟩
    · exact ⟨_, _, rfl⟩
    · exact ⟨_, _, rfl⟩
    · exact ⟨_, _, if_pos hwf⟩
    · exact ⟨_, _, rfl⟩
  obtain ⟨hruns, hlabel⟩ := hs
  obtain ⟨a, rest, hseq⟩ := hseq
  rw [hseq, runSeq_of_label (a := .call) (by rw [hlabel]; rfl)]
  exact runAct_call hruns (by rw [hlabel, List.length_cons, List.length_cons]; omega)

theorem exec_transport_call_of_configured {i : Instr} {s : State} (hs : s.AtCall) (hwf : i.wellFormed = true)
    (hi : IsTransport i) (hconf : configured s = true) : exec i s = .next (s.setMe (s.me.afterCall true)) := by
  rw [exec_transport_call hs hwf hi, State.called_of_configured hconf, hconf]

/-- Settles O50: the first action of every transport operation is the check. -/
theorem transportCallChecksConfigured : Obligations.TransportCallChecksConfigured := by
  intro s i hs hwf hi
  refine ⟨_, exec_transport_call hs hwf hi, rfl, ?_⟩
  rw [State.me_setMe _ _ (by exact hs.1), Master.afterCall_label, hs.2]

end Sys2Proof.Machine
end

section
/-! The polling loop of a transport operation (44_uart.md R191, R192, R194), the same for both flags. -/

namespace Sys2Proof.Machine

/-- The block with another supply of draws. -/
def State.withDraws (s : State) (draws : List Word) (drawn : Nat) : State := { s with draws := draws, drawn := drawn }

section
variable {s : State} {flag : StatFlag}

@[simp] theorem flagSet_withDraws_setMe (draws : List Word) (drawn : Nat) (m : Master) :
    flagSet ((s.withDraws draws drawn).setMe m) flag = flagSet s flag := by
  cases flag <;> rfl

theorem afterDraw_withDraws_setMe (draws : List Word) (drawn : Nat) (m m' : Master) :
    ∃ draws' drawn', ((s.withDraws draws drawn).setMe m).afterDraw.setMe m' = (s.withDraws draws' drawn').setMe m' :=
  ⟨_, _, State.setMe_setMe (s.withDraws draws drawn).afterDraw m m'⟩

theorem State.afterDraw_setMe (m : Master) : (s.setMe m).afterDraw = s.afterDraw.setMe m := rfl

/-- The end of an operation does not show what its earlier actions left in the master's record. -/
theorem State.finish_afterDraw_setMe {m : Master} (hs : s.Runs) (hm : m.finish = s.me.finish) :
    (s.afterDraw.setMe m).finish = s.afterDraw.finish := by
  rw [finish_setMe (s := s.afterDraw) m hs, hm, finish_eq, afterDraw_me]

theorem State.finishWith_setMe {m : Master} (hs : s.Runs) (hm : m.finish = s.me.finish) (r : Word) :
    (s.setMe m).finishWith r = s.finishWith r := by
  rw [finishWith_eq, me_setMe s m hs, setMe_setMe, hm, finishWith_eq]

section
variable {i : Instr} {a : Act} (hexec : exec i s = runSeq [.call, .poll flag, a] s) (hc : s.cfg.Valid) (hs : s.Runs)
  (hlabel : s.me.label = 1) (hconf : configured s = true)
include hexec hc hs hlabel hconf

/-- Once its flag is set, the master passes the poll. -/
theorem exec_poll_set (hflag : flagSet s flag = true) :
    exec i s = .next (s.afterDraw.setMe (s.me.afterRead (statWord s s.anyWord))) := by
  rw [hexec, runSeq_of_label (a := .poll flag) (by rw [hlabel]; rfl)]
  exact runAct_poll_set hc hs (configured_uartOn hconf) (by rw [hlabel]; simp) hflag

theorem exec_poll_clear (hflag : flagSet s flag = false) :
    exec i s = .next (s.afterDraw.setMe (s.me.afterPoll (statWord s s.anyWord))) := by
  rw [hexec, runSeq_of_label (a := .poll flag) (by rw [hlabel]; rfl)]
  exact runAct_poll_clear hc hs (configured_uartOn hconf) (by rw [hlabel]; simp) hflag

end

/-- While its flag is clear an operation polls, any number of times: only draws and the master's temporaries change. -/
theorem execN_polls {i : Instr} {a : Act} (hi : IsTransport i) (hwf : i.wellFormed = true)
    (hexec : ∀ r, exec i r = runSeq [.call, .poll flag, a] r) (hc : s.cfg.Valid) (hs : s.AtCall)
    (hconf : configured s = true) (hflag : flagSet s flag = false) (k : Nat) :
    ∃ draws drawn m, execN i (k + 1) s = .next ((s.withDraws draws drawn).setMe m) ∧ m.label = 1 ∧
      m.finish = s.me.finish := by
  induction k with
  | zero =>
    have hcall := exec_transport_call_of_configured hs hwf hi hconf
    refine ⟨s.draws, s.drawn, _, execN_succ rfl hcall, ?_, Master.afterCall_finish _ _⟩
    rw [Master.afterCall_label, hs.2]
  | succ k ih =>
    obtain ⟨draws, drawn, m, hsteps, hlabel, hfinish⟩ := ih
    have hme : ((s.withDraws draws drawn).setMe m).me = m := State.me_setMe _ m hs.1
    have hpoll := exec_poll_clear (s := (s.withDraws draws drawn).setMe m) (hexec _) hc (State.runs_setMe _ hs.1)
      (by rw [hme, hlabel]) hconf ((flagSet_withDraws_setMe draws drawn m).trans hflag)
    obtain ⟨draws', drawn', hdraw⟩ := afterDraw_withDraws_setMe (s := s) draws drawn m (m.afterPoll _)
    rw [hme, hdraw] at hpoll
    exact ⟨draws', drawn', _, execN_succ hsteps hpoll, hlabel, hfinish⟩

end

end Sys2Proof.Machine
end

section
/-! `send_byte` (44_uart.md R190, R191, R194). -/

namespace Sys2Proof.Machine

theorem isTransport_sendByte (b : Byte) : IsTransport (.sendByte b) := .inl ⟨b, rfl⟩

theorem exec_sendByte (b : Byte) (s : State) :
    exec (.sendByte b) s = runSeq [.call, .poll .txe, .wr .data fun _ => byteWord b] s := rfl

theorem dataValueOk_byteWord (b : Byte) : dataValueOk (byteWord b) = true := by
  rw [dataValueOk_iff, byteWord, BitVec.toNat_setWidth_of_le (by omega)]
  exact b.isLt

theorem byteWord_setWidth (b : Byte) : (byteWord b).setWidth 8 = b := by
  rw [byteWord, BitVec.setWidth_setWidth_of_le _ (by omega), BitVec.setWidth_eq]

section
variable {s : State}

/-- The write that ends `send_byte`. -/
theorem sendByte_writes {b : Byte} (hlabel : s.me.label = 2) (hconf : configured s = true) (hempty : s.txbuf = none) :
    exec (.sendByte b) s = .next { s.finish with txbuf := some b } := by
  have hwrite := busWrite_data_filled (dataValueOk_byteWord b) (configured_txOn hconf) hempty
  rw [byteWord_setWidth] at hwrite
  rw [exec_sendByte, runSeq_of_label (a := .wr .data fun _ => byteWord b) (by rw [hlabel]; rfl)]
  exact runAct_wr_last (f := fun _ => byteWord b) (by rw [hlabel]; rfl) hwrite

/-- A master at the poll of `send_byte` with the transmit buffer empty polls once and writes the byte. -/
theorem sendByte_polls_and_writes (b : Byte) (hc : s.cfg.Valid) (hs : s.Runs) (hlabel : s.me.label = 1)
    (hconf : configured s = true) (hempty : s.txbuf = none) :
    ∃ v, exec (.sendByte b) s = .next v ∧ v.txbuf = none ∧
      exec (.sendByte b) v = .next { s.afterDraw.finish with txbuf := some b } := by
  have hflag : flagSet s .txe = true := Option.isNone_iff_eq_none.mpr hempty
  refine ⟨_, exec_poll_set (flag := .txe) (exec_sendByte b s) hc hs hlabel hconf hflag, hempty, ?_⟩
  have hme : (s.afterDraw.setMe (s.me.afterRead (statWord s s.anyWord))).me = _ := State.me_setMe s.afterDraw _ hs
  have hwrite := sendByte_writes (b := b) (s := s.afterDraw.setMe _) (by rw [hme, Master.afterRead_label, hlabel]) hconf
    hempty
  rw [State.finish_afterDraw_setMe hs (Master.afterRead_finish _ _)] at hwrite
  exact hwrite

end

/-- Settles O51: the call, a poll that finds the buffer empty, and the write. -/
theorem sendByteFillsBuffer : Obligations.SendByteFillsBuffer := by
  intro s b hc hs hconf hempty
  have hcall := exec_transport_call_of_configured hs rfl (isTransport_sendByte b) hconf
  have hme : (s.setMe (s.me.afterCall true)).me = _ := State.me_setMe s _ hs.1
  obtain ⟨v, hpoll, hv, hwrite⟩ := sendByte_polls_and_writes (s := s.setMe (s.me.afterCall true)) b hc
    (State.runs_setMe _ hs.1) (by rw [hme, Master.afterCall_label, hs.2]) hconf hempty
  rw [State.afterDraw_setMe, State.finish_afterDraw_setMe hs.1 (Master.afterCall_finish _ _)] at hwrite
  exact ⟨_, v, hcall, hpoll, hempty, hv, hwrite⟩

/-- The block once the byte `old` has gone from the transmit buffer to the line, routed, with another supply of
draws. -/
def State.drained (s : State) (old : Byte) (draws : List Word) (drawn : Nat) : State :=
  { s.withDraws draws drawn with txLine := s.txLine ++ [(old, true)], txbuf := none }

theorem configured_txRouted {s : State} (h : configured s = true) : txRouted s = true := by
  obtain ⟨-, hclk, -, -, htx, -⟩ := configured_iff.mp h
  rw [txRouted, hclk, htx, beq_self_eq_true, Bool.and_true]

/-- The engine's step while a master polls. -/
theorem txDrain_polling {s : State} {old : Byte} (hconf : configured s = true) (hfull : s.txbuf = some old)
    (draws : List Word) (drawn : Nat) (m : Master) :
    txDrain ((s.withDraws draws drawn).setMe m) = (s.drained old draws drawn).setMe m := by
  have hdrain := txDrain_of_byte (s := (s.withDraws draws drawn).setMe m) (configured_txOn hconf) hfull
  have hrouted : txRouted ((s.withDraws draws drawn).setMe m) = true := configured_txRouted hconf
  rw [hrouted] at hdrain
  exact hdrain

/-- Settles O52: the buffer stays full while the master polls, and the engine's step empties it. -/
theorem sendBytePollsUntilEmpty : Obligations.SendBytePollsUntilEmpty := by
  intro s b old k hc hs hconf hfull
  have hflag : flagSet s .txe = false := Option.isNone_eq_false_iff.mpr (by rw [hfull]; rfl)
  obtain ⟨draws, drawn, m, hsteps, hlabel, hfinish⟩ :=
    execN_polls (isTransport_sendByte b) rfl (exec_sendByte b) hc hs hconf hflag k
  have hme : ((s.withDraws draws drawn).setMe m).me = m := State.me_setMe _ m hs.1
  obtain ⟨v, hpoll, -, hwrite⟩ := sendByte_polls_and_writes (s := (s.drained old draws drawn).setMe m) b hc
    (State.runs_setMe (s := s.drained old draws drawn) m hs.1) ((congrArg Master.label hme).trans hlabel) hconf rfl
  rw [State.afterDraw_setMe, State.finish_afterDraw_setMe (s := s.drained old draws drawn) hs.1 hfinish] at hwrite
  have hlast := execN_two hpoll hwrite
  rw [← txDrain_polling hconf hfull] at hlast
  exact ⟨_, _, hsteps, rfl, (congrArg Master.label hme).trans hlabel, hlast, rfl⟩

end Sys2Proof.Machine
end

section
/-! `recv_byte` (44_uart.md R192, R194). -/

namespace Sys2Proof.Machine

theorem isTransport_recvByte : IsTransport .recvByte := .inr (.inl rfl)

theorem exec_recvByte (s : State) : exec .recvByte s = runSeq [.call, .poll .rxne, .takeByte] s := rfl

/-- The byte in the word that `DATA` reads as, whatever the bits above it are. -/
theorem byteWord_wordByte_dataWord (c : Byte) (any : Word) : byteWord (wordByte (dataWord c any)) = c.setWidth 32 := by
  rw [wordByte, dataWord_extract, byteWord]

/-- The read that ends `recv_byte`. -/
theorem recvByte_takes {s : State} {c : Byte} (hlabel : s.me.label = 2) (hconf : configured s = true)
    (hfull : s.rxbuf = some c) :
    exec .recvByte s = .next (State.finishWith { s.afterDraw with rxbuf := none } (c.setWidth 32)) := by
  have hread : readData s = .ok (dataWord c s.anyWord, { s.afterDraw with rxbuf := none }) :=
    busRead_data_taken (configured_rxOn hconf) hfull
  rw [exec_recvByte, runSeq_of_label (a := .takeByte) (by rw [hlabel]; rfl)]
  simp only [runAct, hread, byteWord_wordByte_dataWord]

/-- The block once a poll of `recv_byte` has found a byte and the read has taken it. -/
def State.afterTake (s : State) : State := { s.afterDraw.afterDraw with rxbuf := none }

/-- A master at the poll of `recv_byte` with a byte in the receive buffer polls once and takes the byte. -/
theorem recvByte_polls_and_takes {s : State} {c : Byte} (hc : s.cfg.Valid) (hs : s.Runs) (hlabel : s.me.label = 1)
    (hconf : configured s = true) (hfull : s.rxbuf = some c) :
    ∃ v, exec .recvByte s = .next v ∧ v.rxbuf = some c ∧
      exec .recvByte v = .next (s.afterTake.finishWith (c.setWidth 32)) := by
  have hflag : flagSet s .rxne = true := Option.isSome_iff_exists.mpr ⟨c, hfull⟩
  refine ⟨_, exec_poll_set (flag := .rxne) (exec_recvByte s) hc hs hlabel hconf hflag, hfull, ?_⟩
  have hme : (s.afterDraw.setMe (s.me.afterRead (statWord s s.anyWord))).me = _ := State.me_setMe s.afterDraw _ hs
  have htake := recvByte_takes (s := s.afterDraw.setMe _) (by rw [hme, Master.afterRead_label, hlabel]) hconf hfull
  exact htake.trans (congrArg _ (State.finishWith_setMe (s := s.afterTake) hs (Master.afterRead_finish _ _) _))

/-- Settles O53: the call, a poll that finds the byte, and the read. -/
theorem recvByteReturnsByte : Obligations.RecvByteReturnsByte := by
  intro s c hc hs hconf hfull
  have hcall := exec_transport_call_of_configured hs rfl isTransport_recvByte hconf
  have hme : (s.setMe (s.me.afterCall true)).me = _ := State.me_setMe s _ hs.1
  obtain ⟨v, hpoll, hv, htake⟩ := recvByte_polls_and_takes (s := s.setMe (s.me.afterCall true)) hc
    (State.runs_setMe _ hs.1) (by rw [hme, Master.afterCall_label, hs.2]) hconf hfull
  have hend := State.finishWith_setMe (s := s.afterTake) hs.1 (Master.afterCall_finish s.me true)
  exact ⟨_, v, hcall, hpoll, hv, htake.trans (congrArg _ (hend _))⟩

/-- Settles O54: the flag stays clear while the master polls. -/
theorem recvBytePollsWhileEmpty : Obligations.RecvBytePollsWhileEmpty := by
  intro s k hc hs hconf hempty
  have hflag : flagSet s .rxne = false := Option.isSome_eq_false_iff.mpr (Option.isNone_iff_eq_none.mpr hempty)
  obtain ⟨draws, drawn, m, hsteps, hlabel, -⟩ :=
    execN_polls isTransport_recvByte rfl exec_recvByte hc hs hconf hflag k
  exact ⟨_, hsteps, rfl, (congrArg Master.label (State.me_setMe _ m hs.1)).trans hlabel⟩

end Sys2Proof.Machine
end

section
/-! The decimal digits of a number, most significant first (45_text_and_timing.md R206). -/

namespace Sys2Proof.Machine

theorem digitChar_toNat {d : Nat} (h : d < 10) : (digitChar d).toNat = 0x30 + d := by
  simp only [digitChar, BitVec.toNat_add, BitVec.toNat_ofNat]
  omega

theorem decDigits_mem {k n : Nat} {c : Byte} (h : c ∈ decDigits k n) : ∃ d < 10, c = digitChar d := by
  induction k, n using decDigits.induct with
  | case1 n => cases h
  | case2 k n hn =>
    rw [decDigits, if_pos hn] at h
    exact ⟨n, hn, List.mem_singleton.mp h⟩
  | case3 k n hn ih =>
    rw [decDigits, if_neg hn, List.mem_append, List.mem_singleton] at h
    rcases h with hc | hc
    · exact ih hc
    · exact ⟨n % 10, Nat.mod_lt n (by decide), hc⟩

/-- The number that a list of digit characters stands for, most significant first. -/
def digitsValue (cs : List Byte) : Nat := cs.foldl (fun acc c => acc * 10 + (c.toNat - 0x30)) 0

theorem digitsValue_append_digitChar (cs : List Byte) {d : Nat} (h : d < 10) :
    digitsValue (cs ++ [digitChar d]) = digitsValue cs * 10 + d := by
  simp only [digitsValue, List.foldl_append, List.foldl_cons, List.foldl_nil, digitChar_toNat h,
    Nat.add_sub_cancel_left]

theorem digitsValue_decDigits {k n : Nat} (h : n < 10 ^ k) : digitsValue (decDigits k n) = n := by
  induction k, n using decDigits.induct with
  | case1 n => exact (Nat.lt_one_iff.mp h).symm
  | case2 k n hn =>
    rw [decDigits, if_pos hn, ← List.nil_append [digitChar n], digitsValue_append_digitChar [] hn]
    exact Nat.zero_add n
  | case3 k n hn ih =>
    have hvalue := ih (by omega)
    rw [decDigits, if_neg hn, digitsValue_append_digitChar _ (Nat.mod_lt n (by decide)), hvalue]
    omega

theorem decDigits_length_le (k n : Nat) : (decDigits k n).length ≤ k := by
  induction k, n using decDigits.induct with
  | case1 n => exact Nat.le_refl 0
  | case2 k n hn => simp [decDigits, hn]
  | case3 k n hn ih => simpa [decDigits, hn] using ih

theorem decDigits_succ_ne_nil (k n : Nat) : decDigits (k + 1) n ≠ [] := by
  rw [decDigits]
  split
  · exact List.cons_ne_nil _ _
  · exact List.append_ne_nil_of_right_ne_nil _ (List.cons_ne_nil _ _)

/-- A number but zero has a first digit, and it is not zero. -/
theorem decDigits_head?_of_pos {k n : Nat} (h : n < 10 ^ k) (hpos : 0 < n) :
    ∃ d, 0 < d ∧ d < 10 ∧ (decDigits k n).head? = some (digitChar d) := by
  induction k, n using decDigits.induct with
  | case1 n => omega
  | case2 k n hn => exact ⟨n, hpos, hn, by rw [decDigits, if_pos hn, List.head?_cons]⟩
  | case3 k n hn ih =>
    obtain ⟨d, hd, hd', hhead⟩ := ih (by omega) (by omega)
    exact ⟨d, hd, hd', by rw [decDigits, if_neg hn, List.head?_append, hhead, Option.some_or]⟩

theorem word_lt_ten_pow (n : Word) : n.toNat < 10 ^ 10 := n.isLt.trans (by decide)

theorem dec_zero : dec 0 = [0x30] := rfl

theorem dec_ne_nil (n : Word) : dec n ≠ [] := decDigits_succ_ne_nil 9 n.toNat

/-- Settles O57: ten digits are enough for 32 bits. -/
theorem decIsMinimalDecimal : Obligations.DecIsMinimalDecimal := by
  intro n
  refine ⟨?digits, digitsValue_decDigits (word_lt_ten_pow n), ?noLeadingZero, ?zero,
    List.length_pos_iff.mpr (dec_ne_nil n), decDigits_length_le 10 n.toNat⟩
  case digits =>
    intro c hc
    obtain ⟨d, hd, rfl⟩ := decDigits_mem hc
    rw [digitChar_toNat hd]
    omega
  case noLeadingZero =>
    intro hn hhead
    have hpos : 0 < n.toNat := Nat.pos_of_ne_zero fun h0 => hn (BitVec.eq_of_toNat_eq h0)
    obtain ⟨d, hd, hd', hfirst⟩ := decDigits_head?_of_pos (word_lt_ten_pow n) hpos
    have hchar : digitChar d = 0x30 := Option.some.inj (hfirst.symm.trans hhead)
    have hcode : 0x30 + d = 0x30 := by rw [← digitChar_toNat hd', hchar]; rfl
    omega
  case zero =>
    rintro rfl
    exact dec_zero

end Sys2Proof.Machine
end

section
/-! Steps that a master takes alone, with no transaction (00_scope.md R13): they change its own record and nothing of
the block. -/

namespace Sys2Proof.Machine

/-- A master past the step `f` of its own, in a sequence of `len` actions. -/
def Master.afterOwn (m : Master) (len : Nat) (f : Temps → Temps × Flow) : Master :=
  { m with tmp := (f m.tmp).1 }.proceed len (f m.tmp).2

/-- A step that does not return. -/
theorem Master.afterOwn_eq {m : Master} {len l : Nat} {f : Temps → Temps × Flow} {flow : Flow}
    (hflow : (f m.tmp).2 = flow) (htarget : flow.target m.label len = l) (hl : l < len) :
    m.afterOwn len f = { m with tmp := (f m.tmp).1, label := l } := by
  subst htarget hflow
  exact if_pos hl

/-- The step that returns. -/
theorem Master.afterOwn_of_done {m : Master} {len : Nat} {f : Temps → Temps × Flow} (h : (f m.tmp).2 = .done) :
    m.afterOwn len f = m.finish := by
  rw [afterOwn, h]
  exact if_neg (Nat.lt_irrefl len)

theorem runAct_own {len : Nat} {f : Temps → Temps × Flow} {s : State} (hs : s.Runs) :
    runAct len (.own f) s = .next (s.setMe (s.me.afterOwn len f)) := by
  simp only [runAct, State.proceed_eq, State.me_setMe _ _ hs, State.setMe_setMe]
  rfl

/-- A master with record `m` has record `m'` after `n` steps of `acts`, each of them its own. -/
inductive OwnSteps (acts : List Act) : Nat → Master → Master → Prop where
  | refl (m : Master) : OwnSteps acts 0 m m
  | step {n : Nat} {m m' : Master} {f : Temps → Temps × Flow} (hact : acts[m.label]? = some (.own f))
      (hrest : OwnSteps acts n (m.afterOwn acts.length f) m') : OwnSteps acts (n + 1) m m'

/-- A step whose effect on the record is known. -/
theorem OwnSteps.step_of_eq {acts : List Act} {n : Nat} {m m₁ m' : Master} {f : Temps → Temps × Flow}
    (hact : acts[m.label]? = some (.own f)) (heq : m.afterOwn acts.length f = m₁) (hrest : OwnSteps acts n m₁ m') :
    OwnSteps acts (n + 1) m m' := .step hact (heq ▸ hrest)

theorem OwnSteps.single {acts : List Act} {m m' : Master} {f : Temps → Temps × Flow}
    (hact : acts[m.label]? = some (.own f)) (heq : m.afterOwn acts.length f = m') : OwnSteps acts 1 m m' :=
  .step_of_eq hact heq (.refl m')

/-- Such steps, with no other agent between them, leave the block as it is. -/
theorem OwnSteps.execN_eq {acts : List Act} {n : Nat} {m m' : Master} {i : Instr} {s : State}
    (h : OwnSteps acts n m m') (hexec : ∀ r, exec i r = runSeq acts r) (hs : s.Runs) (hme : s.me = m) :
    execN i n s = .next (s.setMe m') := by
  induction h generalizing s with
  | refl m => rw [← hme, State.setMe_me]; rfl
  | step hact hrest ih =>
    subst hme
    have hstep := (hexec s).trans ((runSeq_of_label hact).trans (runAct_own hs))
    rw [execN, hstep]
    exact (ih (State.runs_setMe _ hs) (State.me_setMe _ _ hs)).trans (by rw [State.setMe_setMe])

end Sys2Proof.Machine
end

section
/-! `busy_wait` (45_text_and_timing.md R208): all its steps are the master's own. -/

namespace Sys2Proof.Machine

theorem waitPass_last {tmp : Temps} (h : tmp.n.toNat = 1) : (waitPass tmp).2 = .done := by
  have hn : tmp.n = 1 := BitVec.eq_of_toNat_eq h
  simp [waitPass, hn]

theorem toNat_sub_one {w : Word} {k : Nat} (h : w.toNat = k + 1) : (w - 1).toNat = k := by
  have hle : 1 ≤ w := by rw [BitVec.le_def, h]; exact Nat.le_add_left 1 k
  rw [BitVec.toNat_sub_of_le hle, h]
  rfl

theorem waitPass_more {tmp : Temps} {k : Nat} (h : tmp.n.toNat = k + 2) : (waitPass tmp).2 = .stay := by
  have hmore : tmp.n - 1 ≠ 0 := fun h0 => by
    have hleft := toNat_sub_one h
    rw [h0] at hleft
    cases hleft
  exact if_neg hmore

/-- The passes of a master whose counter stands at `k + 1`. -/
theorem ownSteps_waitPass {iterations : Word} {k : Nat} {m : Master} (hlabel : m.label = 1)
    (hn : m.tmp.n.toNat = k + 1) : OwnSteps (busyWaitActs iterations) (k + 1) m m.finish := by
  have hact : (busyWaitActs iterations)[1]? = some (.own waitPass) := rfl
  rw [← hlabel] at hact
  induction k generalizing m with
  | zero => exact .single hact (Master.afterOwn_of_done (waitPass_last hn))
  | succ k ih =>
    have hpass := Master.afterOwn_eq (len := 2) (waitPass_more hn) hlabel (by decide)
    exact .step_of_eq hact hpass (ih (m := { m with tmp := (waitPass m.tmp).1, label := 1 }) rfl (toNat_sub_one hn) rfl)

/-- The counter is loaded, and passed down to zero unless it is loaded with zero. -/
theorem ownSteps_busyWait (k : Word) {m : Master} (hlabel : m.label = 0) :
    OwnSteps (busyWaitActs k) (k.toNat + 1) m m.finish := by
  have hact : (busyWaitActs k)[0]? = some (.own (waitStart k)) := rfl
  rw [← hlabel] at hact
  by_cases hk : k = 0
  case pos =>
    subst hk
    exact .single hact (Master.afterOwn_of_done rfl)
  case neg =>
    obtain ⟨j, hj⟩ := Nat.exists_eq_succ_of_ne_zero fun h0 : k.toNat = 0 => hk (BitVec.eq_of_toNat_eq h0)
    have hflow : (waitStart k m.tmp).2 = .next := if_neg hk
    have hstart := Master.afterOwn_eq (len := 2) hflow (congrArg (· + 1) hlabel) (by decide)
    rw [hj]
    exact .step_of_eq hact hstart (ownSteps_waitPass (m := { m with tmp := (waitStart k m.tmp).1, label := 1 }) rfl hj)

/-- Settles O59: the steps of `busy_wait` are its master's own. -/
theorem busyWaitReturns : Obligations.BusyWaitReturns := fun _ k hs =>
  (ownSteps_busyWait k hs.2).execN_eq (fun _ => rfl) hs.1 rfl

end Sys2Proof.Machine
end

section
/-! The conversion of `send_unsigned_decimal` (45_text_and_timing.md R206, R207): one pass per digit, from the end of
the buffer on. -/

namespace Sys2Proof.Machine

/-- A write to the buffer, as a reader of the buffer from there on sees it. -/
theorem toList_setIfInBounds_drop {α : Type} {n i : Nat} (v : Vector α n) (x : α) (h : i < n) :
    (v.setIfInBounds i x).toList.drop i = x :: v.toList.drop (i + 1) := by
  have hlen : i < (v.toList.set i x).length := by rwa [List.length_set, Vector.length_toList]
  rw [Vector.toList_setIfInBounds, List.drop_eq_getElem_cons hlen, List.getElem_set_self,
    List.drop_set_of_lt (Nat.lt_succ_self i)]

/-- The buffer from the cursor on (R207). -/
def Temps.written (tmp : Temps) : List Byte := tmp.buf.toList.drop tmp.i.toNat

theorem decimalStart_written (n : Word) (tmp : Temps) : (decimalStart n tmp).1.written = [0x00] := by
  have hend := toList_setIfInBounds_drop tmp.buf 0x00 (i := 10) (by decide)
  rwa [List.drop_of_length_le (by rw [Vector.length_toList]) (i := 10 + 1)] at hend

section
variable {tmp : Temps}

theorem decimalPass_n : (decimalPass tmp).1.n.toNat = tmp.n.toNat / 10 := BitVec.toNat_udiv

theorem decimalPass_i (h : 0 < tmp.i.toNat) : (decimalPass tmp).1.i.toNat + 1 = tmp.i.toNat := by
  obtain ⟨i, hi⟩ := Nat.exists_eq_succ_of_ne_zero h.ne'
  rw [hi]
  exact congrArg (· + 1) (toNat_sub_one hi)

/-- A pass writes the lowest digit before those written. -/
theorem decimalPass_written (h : 0 < tmp.i.toNat) (hcap : tmp.i.toNat ≤ 10) :
    (decimalPass tmp).1.written = digitChar (tmp.n.toNat % 10) :: tmp.written := by
  have hi := decimalPass_i h
  have hend := toList_setIfInBounds_drop tmp.buf (digitChar (tmp.n.toNat % 10))
    (i := (decimalPass tmp).1.i.toNat) (by omega)
  rw [hi] at hend
  exact hend

theorem decimalPass_flow : (decimalPass tmp).2 = if tmp.n.toNat < 10 then .next else .stay := by
  have hzero : tmp.n / 10#32 = 0 ↔ tmp.n.toNat < 10 := by
    rw [← BitVec.toNat_inj, BitVec.toNat_udiv]
    exact Nat.div_eq_zero_iff_lt (by decide)
  exact if_congr hzero rfl rfl

end

/-- A master at the end of the conversion of `ds`: at the label past it, with the digits written before what stood in
the buffer. -/
structure Master.Converts (m : Master) (ds : List Byte) (m' : Master) : Prop where
  label : m'.label = 3
  finish : m'.finish = m.finish
  n : m'.tmp.n = 0
  i : m'.tmp.i.toNat + ds.length = m.tmp.i.toNat
  written : m'.tmp.written = ds ++ m.tmp.written

/-- A pass puts its digit after those of the passes to come. -/
theorem Master.Converts.of_pass {m m' : Master} {ds : List Byte} {l : Nat}
    (h : { m with tmp := (decimalPass m.tmp).1, label := l }.Converts ds m') (hpos : 0 < m.tmp.i.toNat)
    (hcap : m.tmp.i.toNat ≤ 10) : m.Converts (ds ++ [digitChar (m.tmp.n.toNat % 10)]) m' where
  label := h.label
  finish := h.finish
  n := h.n
  i := by rw [List.length_append, ← Nat.add_assoc, h.i]; exact decimalPass_i hpos
  written := by rw [h.written, decimalPass_written hpos hcap, List.append_assoc]; rfl

/-- The passes of a master whose number `v` has at most `k` digits, with room for them before the cursor. -/
theorem ownSteps_decimalPass {n : Word} {k v : Nat} {m : Master} (hlabel : m.label = 2) (hn : m.tmp.n.toNat = v)
    (hk : 0 < k) (hv : v < 10 ^ k) (hroom : k ≤ m.tmp.i.toNat) (hcap : m.tmp.i.toNat ≤ 10) :
    ∃ m', OwnSteps (sendUnsignedDecimalActs n) (decDigits k v).length m m' ∧ m.Converts (decDigits k v) m' := by
  induction k, v using decDigits.induct generalizing m with
  | case1 v => cases hk
  | case2 k v hlt =>
    have hact : (sendUnsignedDecimalActs n)[m.label]? = some (.own decimalPass) := by rw [hlabel]; rfl
    have hflow : (decimalPass m.tmp).2 = .next := by rw [decimalPass_flow, if_pos (hn ▸ hlt)]
    have hpass : m.afterOwn 8 decimalPass = { m with tmp := (decimalPass m.tmp).1, label := 3 } :=
      Master.afterOwn_eq hflow (congrArg (· + 1) hlabel) (by decide)
    have hzero : (decimalPass m.tmp).1.n = 0 :=
      BitVec.eq_of_toNat_eq (decimalPass_n.trans (by rw [hn]; exact Nat.div_eq_of_lt hlt))
    have hend : { m with tmp := (decimalPass m.tmp).1, label := 3 }.Converts [] _ := ⟨rfl, rfl, hzero, rfl, rfl⟩
    have hconv := hend.of_pass (hk.trans_le hroom) hcap
    rw [hn, Nat.mod_eq_of_lt hlt] at hconv
    rw [decDigits, if_pos hlt]
    exact ⟨_, .single hact hpass, hconv⟩
  | case3 k v hge ih =>
    have hact : (sendUnsignedDecimalActs n)[m.label]? = some (.own decimalPass) := by rw [hlabel]; rfl
    have hflow : (decimalPass m.tmp).2 = .stay := by rw [decimalPass_flow, if_neg (hn ▸ hge)]
    have hpass : m.afterOwn 8 decimalPass = { m with tmp := (decimalPass m.tmp).1, label := 2 } :=
      Master.afterOwn_eq hflow hlabel (by decide)
    have hquot : (decimalPass m.tmp).1.n.toNat = v / 10 := by rw [decimalPass_n, hn]
    have hi : (decimalPass m.tmp).1.i.toNat + 1 = m.tmp.i.toNat := decimalPass_i (hk.trans_le hroom)
    have hk' : 0 < k := Nat.pos_of_ne_zero fun h0 => by subst h0; omega
    have hroom' : k ≤ (decimalPass m.tmp).1.i.toNat := by omega
    have hcap' : (decimalPass m.tmp).1.i.toNat ≤ 10 := by omega
    obtain ⟨m', hsteps, hm'⟩ := ih (m := { m with tmp := (decimalPass m.tmp).1, label := 2 }) rfl hquot hk'
      (by omega) hroom' hcap'
    have hconv := hm'.of_pass (hk.trans_le hroom) hcap
    rw [hn] at hconv
    rw [decDigits, if_neg hge, List.length_append]
    exact ⟨m', .step_of_eq hact hpass hsteps, hconv⟩

/-- The start and the passes of the conversion, from the step after the call on. -/
theorem ownSteps_convert (n : Word) {m : Master} (hlabel : m.label = 1) :
    ∃ m', OwnSteps (sendUnsignedDecimalActs n) ((dec n).length + 1) m m' ∧ m'.label = 3 ∧ m'.finish = m.finish ∧
      m'.tmp.n = 0 ∧ m'.tmp.i.toNat + (dec n).length = 10 ∧ m'.tmp.written = dec n ++ [0x00] := by
  have hact : (sendUnsignedDecimalActs n)[m.label]? = some (.own (decimalStart n)) := by rw [hlabel]; rfl
  have hstart : m.afterOwn 8 (decimalStart n) = { m with tmp := (decimalStart n m.tmp).1, label := 2 } :=
    Master.afterOwn_eq rfl (congrArg (· + 1) hlabel) (by decide)
  obtain ⟨m', hsteps, hconv⟩ := ownSteps_decimalPass (n := n) (k := 10)
    (m := { m with tmp := (decimalStart n m.tmp).1, label := 2 }) rfl rfl (by decide) (word_lt_ten_pow n)
    (Nat.le_refl 10) (Nat.le_refl 10)
  have hwritten := hconv.written
  rw [decimalStart_written] at hwritten
  exact ⟨m', .step_of_eq hact hstart hsteps, hconv.label, hconv.finish, hconv.n, hconv.i, hwritten⟩

theorem isTransport_sendUnsignedDecimal (n : Word) : IsTransport (.sendUnsignedDecimal n) :=
  .inr (.inr (.inr ⟨n, rfl⟩))

/-- Settles O58: the conversion is steps of the master's own, after the call. -/
theorem conversionFillsBuffer : Obligations.ConversionFillsBuffer := by
  intro s n hs hconf
  have hcall := exec_transport_call_of_configured hs rfl (isTransport_sendUnsignedDecimal n) hconf
  have hme : (s.setMe (s.me.afterCall true)).me = s.me.afterCall true := State.me_setMe s _ hs.1
  have hlabel : (s.me.afterCall true).label = 1 := congrArg (· + 1) hs.2
  obtain ⟨m, hsteps, hdone, -, hn, hi, hwritten⟩ := ownSteps_convert n hlabel
  have hrun := hsteps.execN_eq (i := .sendUnsignedDecimal n) (fun _ => rfl) (State.runs_setMe _ hs.1) hme
  rw [State.setMe_setMe] at hrun
  have hend : (s.setMe m).me = m := State.me_setMe s m hs.1
  refine ⟨s.setMe m, ?run, rfl, ?_⟩
  case run =>
    have hcount : 2 + (dec n).length = 1 + ((dec n).length + 1) := by omega
    rw [hcount, execN_add (execN_succ rfl hcall)]
    exact hrun
  rw [hend]
  exact ⟨hdone, hi, hn, hwritten⟩

end Sys2Proof.Machine
end

section
/-! Transmission under a schedule in which the transmit engine steps before each step of the master (44_uart.md R195):
what a part of an operation hands to the line. -/

namespace Sys2Proof.Machine

/-- What `send_byte` needs on its every step: an admitted configuration, a master, and `Configured` (44_uart.md
R193). -/
structure State.Ready (s : State) : Prop where
  valid : s.cfg.Valid
  runs : s.Runs
  configured : configured s = true

/-- From `s` to `t`, exactly `bs` went into the stream of bytes handed to the line, all routed, the running master's
record became `m`, and nothing else of the block changed. -/
structure State.Sent (s : State) (bs : List Byte) (m : Master) (t : State) : Prop where
  stream : sentRouted t = sentRouted s ++ bs.map fun b => (b, true)
  frame : t = { s.setMe m with txbuf := t.txbuf, txLine := t.txLine, draws := t.draws, drawn := t.drawn }

section
variable {s t u : State} {bs cs : List Byte} {m m' : Master} {P Q : Master → Prop} {i : Instr} {acts : List Act}

/-- A step that leaves the stream alone. -/
theorem State.Sent.of_eq (hstream : sentRouted t = sentRouted s)
    (hframe : t = { s.setMe m with txbuf := t.txbuf, txLine := t.txLine, draws := t.draws, drawn := t.drawn }) :
    s.Sent [] m t := ⟨hstream.trans (List.append_nil _).symm, hframe⟩

theorem State.Sent.me_eq (h : s.Sent bs m t) (hs : s.Runs) : t.me = m :=
  (congrArg State.me h.frame).trans (State.me_setMe s m hs)

theorem State.Sent.ready (h : s.Sent bs m t) (hs : s.Ready) : t.Ready := by
  rw [h.frame]
  exact ⟨hs.valid, State.runs_setMe m hs.runs, hs.configured⟩

theorem State.Sent.trans (h : s.Sent bs m t) (h' : t.Sent cs m' u) : s.Sent (bs ++ cs) m' u where
  stream := by rw [h'.stream, h.stream, List.map_append, List.append_assoc]
  frame := by
    have hsetMe : t.setMe m' = { s.setMe m' with
        txbuf := t.txbuf, txLine := t.txLine, draws := t.draws, drawn := t.drawn } :=
      (congrArg (State.setMe · m') h.frame).trans (State.setMe_setMe { s with
        txbuf := t.txbuf, txLine := t.txLine, draws := t.draws, drawn := t.drawn } m m')
    have hframe := h'.frame
    rw [hsetMe] at hframe
    exact hframe

/-- The engine's step moves a byte from the buffer to the line, routed. -/
theorem State.Ready.sent_txDrain (hs : s.Ready) : s.Sent [] s.me (txDrain s) := by
  by_cases h : TxDrainEnabled s
  case pos =>
    obtain ⟨hon, hfull⟩ := h
    obtain ⟨b, hb⟩ := Option.ne_none_iff_exists'.mp hfull
    rw [txDrain_of_byte hon hb, configured_txRouted hs.configured]
    exact .of_eq (by simp [sentRouted, hb]) (by rw [State.setMe_me])
  case neg =>
    rw [txDrain_of_not_enabled h]
    exact .of_eq rfl (by rw [State.setMe_me])

theorem execDrainN_add {j k : Nat} (h : execDrainN i j s = .next t) :
    execDrainN i (j + k) s = execDrainN i k t := by
  induction j generalizing s with
  | zero => cases h; rw [Nat.zero_add]
  | succ j ih =>
    rw [Nat.succ_add]
    simp only [execDrainN] at h ⊢
    split at h
    · exact ih h
    · cases h
    · cases h

/-- Under that schedule, operation `i` hands exactly `bs` to the line, and then the master's record is as `P` says. -/
def State.Sends (s : State) (i : Instr) (bs : List Byte) (P : Master → Prop) : Prop :=
  ∃ k t m, execDrainN i k s = .next t ∧ s.Sent bs m t ∧ P m

theorem State.sends_nothing (s : State) (i : Instr) : s.Sends i [] (· = s.me) :=
  ⟨0, s, s.me, rfl, .of_eq rfl (by rw [State.setMe_me]), rfl⟩

theorem State.Sends.mono (h : s.Sends i bs P) (hPQ : ∀ m, P m → Q m) : s.Sends i bs Q := by
  obtain ⟨k, t, m, hrun, hsent, hP⟩ := h
  exact ⟨k, t, m, hrun, hsent, hPQ m hP⟩

/-- Parts of an operation, one after the other. -/
theorem State.Sends.andThen (h : s.Sends i bs P) (hs : s.Ready)
    (hnext : ∀ t : State, t.Ready → P t.me → t.Sends i cs Q) : s.Sends i (bs ++ cs) Q := by
  obtain ⟨j, t, m, hrun, hsent, hP⟩ := h
  obtain ⟨k, u, m', hrun', hsent', hQ⟩ := hnext t (hsent.ready hs) (hsent.me_eq hs.runs ▸ hP)
  exact ⟨j + k, u, m', (execDrainN_add hrun).trans hrun', hsent.trans hsent', hQ⟩

/-- Before each action of the master the engine has emptied the transmit buffer. -/
theorem State.Ready.drained (hs : s.Ready) :
    (txDrain s).Ready ∧ (txDrain s).me = s.me ∧ (txDrain s).txbuf = none :=
  ⟨hs.sent_txDrain.ready hs, hs.sent_txDrain.me_eq hs.runs, txDrain_txbuf (configured_txOn hs.configured)⟩

variable (hexec : ∀ r, exec i r = runSeq acts r) (hs : s.Ready)
include hexec hs

/-- One action of the master, right after the engine's step. -/
theorem State.Ready.sends_act {a : Act} (hact : acts[s.me.label]? = some a)
    (hrun : runAct acts.length a (txDrain s) = .next u) (hsent : (txDrain s).Sent bs m u) (hP : P m) :
    s.Sends i bs P := by
  obtain ⟨-, hme, -⟩ := hs.drained
  have hfirst : exec i (txDrain s) = .next u := by rw [hexec, runSeq_of_label (hme ▸ hact), hrun]
  exact ⟨1, u, m, by rw [execDrainN, hfirst]; rfl, hs.sent_txDrain.trans hsent, hP⟩

theorem State.Ready.sends_own {f : Temps → Temps × Flow} (hact : acts[s.me.label]? = some (.own f)) :
    s.Sends i [] (· = s.me.afterOwn acts.length f) := by
  obtain ⟨hd, hme, -⟩ := hs.drained
  rw [← hme]
  exact hs.sends_act hexec hact (runAct_own hd.runs) (.of_eq rfl rfl) rfl

/-- A step of the master's own that goes on at label `l`. -/
theorem State.Ready.sends_own_to {f : Temps → Temps × Flow} {tmp : Temps} {flow : Flow} {l : Nat}
    (hact : acts[s.me.label]? = some (.own f)) (hf : f s.me.tmp = (tmp, flow))
    (htarget : flow.target s.me.label acts.length = l) (hl : l < acts.length) :
    s.Sends i [] (· = { s.me with tmp := tmp, label := l }) := by
  have hown := hs.sends_own hexec hact
  rw [Master.afterOwn_eq (congrArg Prod.snd hf) htarget hl, hf] at hown
  exact hown

theorem State.Ready.sends_call (hact : acts[s.me.label]? = some .call) (hlen : s.me.label + 1 < acts.length) :
    s.Sends i [] (· = s.me.afterCall true) := by
  obtain ⟨hd, hme, -⟩ := hs.drained
  have hcall := runAct_call hd.runs (hme ▸ hlen)
  rw [State.called_of_configured hd.configured, hd.configured, hme] at hcall
  exact hs.sends_act hexec hact hcall (.of_eq rfl rfl) rfl

/-- The poll finds the buffer empty. -/
theorem State.Ready.sends_poll (hact : acts[s.me.label]? = some (.poll .txe)) (hlen : s.me.label + 1 < acts.length) :
    s.Sends i [] (fun m => ∃ v, m = s.me.afterRead v) := by
  obtain ⟨hd, hme, hempty⟩ := hs.drained
  have hflag : flagSet (txDrain s) .txe = true := Option.isNone_iff_eq_none.mpr hempty
  have hpoll := runAct_poll_set hd.valid hd.runs (configured_uartOn hd.configured) (hme ▸ hlen) hflag
  rw [hme] at hpoll
  exact hs.sends_act hexec hact hpoll (.of_eq rfl rfl) ⟨_, rfl⟩

theorem State.Ready.sends_write {b : Temps → Byte}
    (hact : acts[s.me.label]? = some (.wr .data fun tmp => byteWord (b tmp))) (hlen : s.me.label + 1 < acts.length) :
    s.Sends i [b s.me.tmp] (· = { s.me with label := s.me.label + 1 }) := by
  obtain ⟨hd, hme, hempty⟩ := hs.drained
  have hfilled := busWrite_data_filled (dataValueOk_byteWord (b (txDrain s).me.tmp)) (configured_txOn hd.configured)
    hempty
  have hwrite := runAct_wr (len := acts.length) (f := fun tmp => byteWord (b tmp)) hfilled
  rw [byteWord_setWidth, hme, Master.proceed_next_of_lt hlen] at hwrite
  refine hs.sends_act hexec hact hwrite ⟨?_, rfl⟩ rfl
  simp [sentRouted, hempty]

omit hs in
/-- Steps of the master's own send nothing. -/
theorem State.Ready.sends_ownSteps {n : Nat} (hs : s.Ready) (hme : s.me = m) (h : OwnSteps acts n m m') :
    s.Sends i [] (· = m') := by
  induction h generalizing s with
  | refl m => exact hme ▸ s.sends_nothing i
  | step hact hrest ih =>
    subst hme
    exact (hs.sends_own hexec hact).andThen hs fun t ht hme => ih ht hme

end

/-- A master past the `send_byte` of a longer operation: the poll has left a word in `t`. -/
def Master.afterSend (m : Master) (v : Word) : Master :=
  { m with label := m.label + 3, tmp := { m.tmp with t := v, entered := true } }

/-- A `send_byte` inside a longer operation hands its byte to the line. -/
theorem State.Ready.sends_byte {s : State} {i : Instr} {acts rest : List Act} {b : Temps → Byte}
    (hexec : ∀ r, exec i r = runSeq acts r) (hs : s.Ready) (hacts : acts.drop s.me.label = sendActs b ++ rest)
    (hrest : rest ≠ []) (hb : ∀ m : Master, ∀ v, b (m.afterSend v).tmp = b m.tmp) :
    s.Sends i [b s.me.tmp] fun m => ∃ v, m = s.me.afterSend v := by
  have hpoll : acts.drop (s.me.label + 1) = _ := drop_succ_of_drop_eq_cons hacts
  have hwrite : acts.drop (s.me.label + 2) = _ := drop_succ_of_drop_eq_cons hpoll
  have hlen : s.me.label + 2 + 1 < acts.length := succ_lt_length_of_drop_eq_cons hwrite hrest
  refine (hs.sends_call hexec (getElem?_of_drop_eq_cons hacts) (by omega)).andThen hs fun t ht hcalled => ?_
  have hlabel : t.me.label = s.me.label + 1 := congrArg Master.label hcalled
  rw [← hlabel] at hpoll
  refine (ht.sends_poll hexec (getElem?_of_drop_eq_cons hpoll) (by omega)).andThen ht fun u hu hpolled => ?_
  obtain ⟨v, hpolled⟩ := hpolled
  rw [hcalled] at hpolled
  have hlabel : u.me.label = s.me.label + 2 := congrArg Master.label hpolled
  rw [← hlabel] at hwrite
  have hsend := hu.sends_write hexec (getElem?_of_drop_eq_cons hwrite) (by omega)
  rw [hpolled] at hsend
  rw [← hb s.me v]
  exact hsend.mono fun m hm => ⟨v, hm⟩

end Sys2Proof.Machine
end

section
/-! `send_string` (45_text_and_timing.md R205): each character with a `send_byte`, after a carriage return if it is a
line feed. -/

namespace Sys2Proof.Machine

theorem exec_sendString {str : List Byte} (h : noNul str = true) (s : State) :
    exec (.sendString str) s = runSeq (sendStringActs str) s := if_pos h

theorem isTransport_sendString (str : List Byte) : IsTransport (.sendString str) := .inr (.inr (.inl ⟨str, rfl⟩))

theorem wordByte_byteWord (b : Byte) : wordByte (byteWord b) = b :=
  (BitVec.setWidth_eq_extractLsb' (by omega)).symm.trans (byteWord_setWidth b)

/-- A master about to look at the next character of a string, with `left` still to send. -/
structure Master.Fetches (m : Master) (left : List Byte) : Prop where
  label : m.label = 2
  left : m.tmp.left = left

/-- A master before label `l` with the character `c` in its temporaries, and `left` to send after it. -/
structure Master.Holds (m : Master) (l : Nat) (c : Byte) (left : List Byte) : Prop where
  label : m.label = l
  char : m.tmp.c = byteWord c
  left : m.tmp.left = left

section
variable {s : State} {str left : List Byte} {c : Byte} (hstr : noNul str = true) (hs : s.Ready)
include hstr hs

/-- The look at a character, which passes over the carriage return unless it is a line feed. -/
theorem State.Ready.sends_fetch (hme : s.me.Fetches (c :: left)) :
    s.Sends (.sendString str) [] fun m =>
      m.Holds (if c = chLf then 3 else 6) c left ∧ m.finish = s.me.finish := by
  have hfound : stringFetch s.me.tmp =
      ({ s.me.tmp with c := byteWord c, left := left }, if c = chLf then .next else .jump 6) := by
    simp only [stringFetch, hme.left]
  have htarget : (if c = chLf then Flow.next else .jump 6).target s.me.label 10 = if c = chLf then 3 else 6 := by
    split
    · exact congrArg (· + 1) hme.label
    · rfl
  have hlt : (if c = chLf then 3 else 6) < 10 := by split <;> decide
  have hfetch := hs.sends_own_to (exec_sendString hstr) (by rw [hme.label]; rfl) hfound htarget hlt
  refine hfetch.mono fun m hm => ?_
  subst hm
  exact ⟨⟨rfl, rfl, rfl⟩, rfl⟩

/-- From the character's `send_byte` to the next character. -/
theorem State.Ready.sends_character (hme : s.me.Holds 6 c left) :
    s.Sends (.sendString str) [c] fun m => m.Fetches left ∧ m.finish = s.me.finish := by
  have hacts : (sendStringActs str).drop s.me.label = sendActs (fun tmp => wordByte tmp.c) ++ [.own stringNext] := by
    rw [hme.label]; rfl
  have hbyte := hs.sends_byte (exec_sendString hstr) hacts (List.cons_ne_nil _ _) fun _ _ => rfl
  rw [hme.char, wordByte_byteWord] at hbyte
  refine hbyte.andThen hs fun t ht hsent => ?_
  obtain ⟨v, hsent⟩ := hsent
  have hlast : t.me.label = 9 := by rw [hsent, Master.afterSend, hme.label]
  have hnext := ht.sends_own_to (exec_sendString hstr) (f := stringNext) (l := 2) (by rw [hlast]; rfl) rfl rfl
    (by decide : 2 < 10)
  rw [hsent] at hnext
  refine hnext.mono fun m hm => ?_
  subst hm
  exact ⟨⟨rfl, hme.left⟩, rfl⟩

/-- From the carriage return's `send_byte` to the next character. -/
theorem State.Ready.sends_lineFeed (hme : s.me.Holds 3 c left) :
    s.Sends (.sendString str) [chCr, c] fun m => m.Fetches left ∧ m.finish = s.me.finish := by
  have hacts : (sendStringActs str).drop s.me.label = sendActs (fun _ => chCr) ++ (sendStringActs str).drop 6 := by
    rw [hme.label]; rfl
  have hbyte := hs.sends_byte (exec_sendString hstr) hacts (List.cons_ne_nil _ _) fun _ _ => rfl
  refine hbyte.andThen hs fun t ht hsent => ?_
  obtain ⟨v, hsent⟩ := hsent
  have hholds : (s.me.afterSend v).Holds 6 c left := ⟨congrArg (· + 3) hme.label, hme.char, hme.left⟩
  have hchar := ht.sends_character hstr (hsent ▸ hholds)
  rw [hsent] at hchar
  exact hchar

/-- One character, from looking at it to looking at the next. -/
theorem State.Ready.sends_next (hme : s.me.Fetches (c :: left)) :
    s.Sends (.sendString str) (crlf [c]) fun m => m.Fetches left ∧ m.finish = s.me.finish := by
  refine (hs.sends_fetch hstr hme).andThen (cs := crlf [c]) hs fun t ht hfetched => ?_
  obtain ⟨hholds, hfinish⟩ := hfetched
  rw [← hfinish]
  by_cases hc : c = chLf
  case pos =>
    have hcrlf : crlf [c] = [chCr, c] := by rw [crlf, if_pos hc, hc]; rfl
    rw [if_pos hc] at hholds
    rw [hcrlf]
    exact ht.sends_lineFeed hstr hholds
  case neg =>
    have hcrlf : crlf [c] = [c] := by rw [crlf, if_neg hc]; rfl
    rw [if_neg hc] at hholds
    rw [hcrlf]
    exact ht.sends_character hstr hholds

end

theorem crlf_cons (c : Byte) (rest : List Byte) : crlf (c :: rest) = crlf [c] ++ crlf rest := by
  simp only [crlf]
  split <;> rfl

/-- The rest of a string, to the end of the operation. -/
theorem State.Ready.sends_rest {s : State} {str left : List Byte} (hstr : noNul str = true) (hs : s.Ready)
    (hme : s.me.Fetches left) : s.Sends (.sendString str) (crlf left) (· = s.me.finish) := by
  induction left generalizing s with
  | nil =>
    have hact : (sendStringActs str)[s.me.label]? = some (.own stringFetch) := by rw [hme.label]; rfl
    have hdone : (stringFetch s.me.tmp).2 = .done := by simp only [stringFetch, hme.left]
    have hend := hs.sends_own (exec_sendString hstr) hact
    rw [Master.afterOwn_of_done hdone] at hend
    exact hend
  | cons c rest ih =>
    rw [crlf_cons]
    refine (hs.sends_next hstr hme).andThen hs fun t ht hnext => ?_
    obtain ⟨hfetches, hfinish⟩ := hnext
    rw [← hfinish]
    exact ih ht hfetches

/-- The whole operation: the call, the first character, and the rest. -/
theorem State.Ready.sends_sendString {s : State} {str : List Byte} (hstr : noNul str = true) (hs : s.Ready)
    (hlabel : s.me.label = 0) : s.Sends (.sendString str) (crlf str) (· = s.me.finish) := by
  have hexec := exec_sendString hstr
  refine (hs.sends_call hexec (by rw [hlabel]; rfl) (by rw [hlabel]; exact (by decide : 1 < 10))).andThen hs
    fun t ht hcalled => ?_
  have hlabel' : t.me.label = 1 := by rw [hcalled, Master.afterCall_label, hlabel]
  have hstart := ht.sends_own_to hexec (f := stringStart str) (by rw [hlabel']; rfl) rfl (congrArg (· + 1) hlabel')
    (by decide : 2 < 10)
  refine hstart.andThen ht fun u hu hstarted => ?_
  have hrest := hu.sends_rest hstr (left := str) (by rw [hstarted]; exact ⟨rfl, rfl⟩)
  rw [hstarted, hcalled] at hrest
  exact hrest

theorem noNul_iff {str : List Byte} : noNul str = true ↔ ∀ c ∈ str, c ≠ 0x00 := by
  simp [noNul]

/-- Settles O55: the operation ends with exactly `crlf(s)` handed to the line. -/
theorem sendStringSendsCrlf : Obligations.SendStringSendsCrlf := by
  intro s str hc hs hconf hbytes
  have hstr : noNul str = true := noNul_iff.mpr hbytes
  have hcall := exec_transport_call_of_configured (i := .sendString str) hs hstr (isTransport_sendString str) hconf
  obtain ⟨n, t, _, hrun, hsent, rfl⟩ := State.Ready.sends_sendString hstr ⟨hc, hs.1, hconf⟩ hs.2
  exact ⟨⟨_, hcall⟩, n, t, hrun, hsent.stream, hsent.frame⟩

end Sys2Proof.Machine
end

section
/-! `send_unsigned_decimal` (45_text_and_timing.md R206): the conversion, and then a `send_byte` for each character from
the cursor to index 9. -/

namespace Sys2Proof.Machine

theorem exec_sendUnsignedDecimal (n : Word) (s : State) :
    exec (.sendUnsignedDecimal n) s = runSeq (sendUnsignedDecimalActs n) s := rfl

/-- A master at label `l` of the sending loop with the digits `ds` from index `j` of its buffer on, before the
terminator. -/
structure Master.AtDigits (m : Master) (l : Nat) (ds : List Byte) : Prop where
  label : m.label = l
  digits : m.tmp.buf.toList.drop m.tmp.j.toNat = ds ++ [0x00]

section
variable {tmp : Temps} {c : Byte} {ds : List Byte} (h : tmp.buf.toList.drop tmp.j.toNat = c :: ds ++ [0x00])
include h

/-- The character that `send_byte(buf[j])` sends. -/
theorem getElem?_buf_of_drop : tmp.buf[tmp.j.toNat]?.getD 0 = c := by
  rw [← Vector.getElem?_toList, ← List.head?_drop, h]
  rfl

/-- The last digit stands at index 9. -/
theorem toNat_j_add_length : tmp.j.toNat + ds.length = 9 := by
  have hlen := congrArg List.length h
  rw [List.length_drop, Vector.length_toList, List.length_append, List.length_cons, List.length_singleton] at hlen
  omega

end

theorem decimalNext_of_lt {tmp : Temps} (h : tmp.j.toNat < 9) :
    decimalNext tmp = ({ tmp with j := tmp.j + 1 }, .jump 4) := if_pos h

theorem decimalNext_of_eq {tmp : Temps} (h : tmp.j.toNat = 9) : decimalNext tmp = (tmp, .done) :=
  if_neg (Nat.not_lt.mpr h.ge)

section
variable {n : Word} {c d : Byte} {ds : List Byte} {s : State}

/-- One digit, to the end of its pass. -/
theorem State.Ready.sends_digit (hs : s.Ready) (hme : s.me.AtDigits 4 (c :: ds)) :
    s.Sends (.sendUnsignedDecimal n) [c] fun m => m.AtDigits 7 (c :: ds) ∧ m.finish = s.me.finish := by
  have hacts : (sendUnsignedDecimalActs n).drop s.me.label =
      sendActs (fun tmp => tmp.buf[tmp.j.toNat]?.getD 0) ++ [.own decimalNext] := by rw [hme.label]; rfl
  have hbyte := hs.sends_byte (exec_sendUnsignedDecimal n) hacts (List.cons_ne_nil _ _) fun _ _ => rfl
  rw [getElem?_buf_of_drop hme.digits] at hbyte
  refine hbyte.mono fun m hm => ?_
  obtain ⟨v, rfl⟩ := hm
  exact ⟨⟨congrArg (· + 3) hme.label, hme.digits⟩, rfl⟩

theorem State.Ready.sends_digits_return (hs : s.Ready) (hme : s.me.AtDigits 7 [c]) :
    s.Sends (.sendUnsignedDecimal n) [] (· = s.me.finish) := by
  have hend := hs.sends_own (exec_sendUnsignedDecimal n) (f := decimalNext) (by rw [hme.label]; rfl)
  rw [Master.afterOwn_of_done (congrArg Prod.snd (decimalNext_of_eq (toNat_j_add_length hme.digits)))] at hend
  exact hend

theorem State.Ready.sends_digits_again (hs : s.Ready) (hme : s.me.AtDigits 7 (c :: d :: ds)) :
    s.Sends (.sendUnsignedDecimal n) [] fun m => m.AtDigits 4 (d :: ds) ∧ m.finish = s.me.finish := by
  have hindex := toNat_j_add_length hme.digits
  have hlt : s.me.tmp.j.toNat < 9 := by rw [List.length_cons] at hindex; omega
  have hj : (s.me.tmp.j + 1).toNat = s.me.tmp.j.toNat + 1 :=
    BitVec.toNat_add_of_lt (Nat.add_lt_of_lt_sub (hlt.trans (by decide)))
  have hnext := hs.sends_own_to (exec_sendUnsignedDecimal n) (by rw [hme.label]; rfl) (decimalNext_of_lt hlt) rfl
    (by decide : 4 < 8)
  refine hnext.mono fun m hm => ?_
  subst hm
  refine ⟨⟨rfl, ?_⟩, rfl⟩
  rw [hj, ← List.tail_drop, hme.digits]
  rfl

end

/-- The digits, to the end of the operation. -/
theorem State.Ready.sends_digits {n : Word} {c : Byte} {ds : List Byte} {s : State} (hs : s.Ready)
    (hme : s.me.AtDigits 4 (c :: ds)) : s.Sends (.sendUnsignedDecimal n) (c :: ds) (· = s.me.finish) := by
  induction ds generalizing s c with
  | nil =>
    refine (hs.sends_digit hme).andThen hs fun t ht hsent => ?_
    obtain ⟨hdigits, hfinish⟩ := hsent
    rw [← hfinish]
    exact ht.sends_digits_return hdigits
  | cons d ds ih =>
    refine (hs.sends_digit hme).andThen hs fun t ht hsent => ?_
    obtain ⟨hdigits, hfinish⟩ := hsent
    refine (ht.sends_digits_again hdigits).andThen ht fun u hu hnext => ?_
    obtain ⟨hdigits', hfinish'⟩ := hnext
    rw [← hfinish, ← hfinish']
    exact ih hu hdigits'

/-- The call, the conversion and the start of the sending loop. -/
theorem State.Ready.sends_conversion {s : State} (n : Word) (hs : s.Ready) (hlabel : s.me.label = 0) :
    s.Sends (.sendUnsignedDecimal n) [] fun m => m.AtDigits 4 (dec n) ∧ m.finish = s.me.finish := by
  have hexec := exec_sendUnsignedDecimal n
  refine (hs.sends_call hexec (by rw [hlabel]; rfl) (by rw [hlabel]; exact (by decide : 1 < 8))).andThen hs
    fun t ht hcalled => ?_
  have hlabel' : t.me.label = 1 := by rw [hcalled, Master.afterCall_label, hlabel]
  obtain ⟨m, hsteps, hdone, hfinish, -, -, hwritten⟩ := ownSteps_convert n hlabel'
  refine (ht.sends_ownSteps hexec rfl hsteps).andThen ht fun u hu hconverted => ?_
  subst hconverted
  have hstart := hu.sends_own_to hexec (f := decimalSend) (l := 4) (by rw [hdone]; rfl) rfl (congrArg (· + 1) hdone)
    (by decide : 4 < 8)
  refine hstart.mono fun m hm => ?_
  subst hm
  exact ⟨⟨rfl, hwritten⟩, hfinish.trans (by rw [hcalled, Master.afterCall_finish])⟩

/-- Settles O56: the conversion sends nothing, and the loop sends the digits it left in the buffer. -/
theorem sendUnsignedDecimalSendsDigits : Obligations.SendUnsignedDecimalSendsDigits := by
  intro s n hc hs hconf
  have hready : s.Ready := ⟨hc, hs.1, hconf⟩
  have hcall := exec_transport_call_of_configured hs rfl (isTransport_sendUnsignedDecimal n) hconf
  have hsends : s.Sends (.sendUnsignedDecimal n) (dec n) (· = s.me.finish) := by
    refine (hready.sends_conversion n hs.2).andThen (cs := dec n) hready fun t ht hconverted => ?_
    obtain ⟨hdigits, hfinish⟩ := hconverted
    obtain ⟨c, ds, hdec⟩ := List.exists_cons_of_ne_nil (dec_ne_nil n)
    rw [hdec] at hdigits ⊢
    rw [← hfinish]
    exact ht.sends_digits hdigits
  obtain ⟨k, t, _, hrun, hsent, rfl⟩ := hsends
  exact ⟨⟨_, hcall⟩, k, t, hrun, hsent.stream, hsent.frame⟩

end Sys2Proof.Machine
end

section
/-! Clocks across a step (60_exceptions.md R233, 40_bus_transactions.md R135): only a write of `CLKEN` and the settle
steps touch what the clock predicates read. The write clears no clock bit and starts only a peripheral settling whose
bit was 0; a settle step only ends the settling. -/

namespace Sys2Proof.Machine

/-- A peripheral answers exactly with its clock bit on and its settling over (10_state.md R35). -/
theorem clkGpio_iff {s : State} :
    clkGpio s = true ↔ s.clken.getLsbD s.cfg.clkBitGpio = true ∧ s.settlingGpio = false := by
  simp [clkGpio]

theorem clkUart_iff {s : State} :
    clkUart s = true ↔ s.clken.getLsbD s.cfg.clkBitUart = true ∧ s.settlingUart = false := by
  simp [clkUart]

/-- A clock that is on in `s` is on in `t`, and a peripheral that answers in `s` answers in `t`. -/
structure State.KeepsClocks (s t : State) : Prop where
  gpio_on : s.clken.getLsbD s.cfg.clkBitGpio = true → t.clken.getLsbD t.cfg.clkBitGpio = true
  uart_on : s.clken.getLsbD s.cfg.clkBitUart = true → t.clken.getLsbD t.cfg.clkBitUart = true
  gpio_answers : clkGpio s = true → clkGpio t = true
  uart_answers : clkUart s = true → clkUart t = true

theorem State.KeepsClocks.refl (s : State) : s.KeepsClocks s := ⟨id, id, id, id⟩

theorem State.KeepsClocks.trans {s t u : State} (hst : s.KeepsClocks t) (htu : t.KeepsClocks u) : s.KeepsClocks u where
  gpio_on := htu.gpio_on ∘ hst.gpio_on
  uart_on := htu.uart_on ∘ hst.uart_on
  gpio_answers := htu.gpio_answers ∘ hst.gpio_answers
  uart_answers := htu.uart_answers ∘ hst.uart_answers

/-- The clocks are among the fields of `State.invPart`. -/
theorem State.KeepsClocks.of_invPart_eq {s t : State} (h : t.invPart = s.invPart) : s.KeepsClocks t := by
  simp only [State.invPart, Prod.mk.injEq] at h
  obtain ⟨hcfg, -, -, ⟨hclken, hgpio, huart⟩, -, -, -⟩ := h
  constructor
  case gpio_on | uart_on => rw [hcfg, hclken]; exact id
  case gpio_answers => rw [clkGpio_iff, clkGpio_iff, hcfg, hclken, hgpio]; exact id
  case uart_answers => rw [clkUart_iff, clkUart_iff, hcfg, hclken, huart]; exact id

/-- A settled peripheral whose clock bit is on does not start settling again. -/
theorem settled_after_writeClken {s : State} {i : Nat} (v : Word) {settling : Bool} (hon : s.clken.getLsbD i = true)
    (hsettled : settling = false) : (settling || startsSettling s i v) = false := by
  simp [startsSettling, hon, hsettled]

theorem WriteStep.keepsClocks {s t : State} {x : Reg} {v : Word} (h : WriteStep s v x t) : s.KeepsClocks t := by
  cases h with
  | gated _ _ | modeLo _ | modeHi _ | out _ | filled _ _ _ | off _ _ _ | baud _ _ _ | ctrl _ _ _ =>
    exact ⟨id, id, id, id⟩
  | clken hclear =>
    obtain ⟨hgpio, huart⟩ := clearsClock_eq_false_iff.mp hclear
    refine ⟨hgpio, huart, fun hclk => ?gpio_answers, fun hclk => ?uart_answers⟩
    case gpio_answers =>
      obtain ⟨hon, hsettled⟩ := clkGpio_iff.mp hclk
      exact clkGpio_iff.mpr ⟨hgpio hon, settled_after_writeClken v hon hsettled⟩
    case uart_answers =>
      obtain ⟨hon, hsettled⟩ := clkUart_iff.mp hclk
      exact clkUart_iff.mpr ⟨huart hon, settled_after_writeClken v hon hsettled⟩

theorem BlockStep.keepsClocks {s t : State} (h : BlockStep s t) : s.KeepsClocks t := by
  cases h with
  | same => exact .refl s
  | violated => exact .of_invPart_eq s.invPart_violate
  | read hr => exact .of_invPart_eq hr.invPart_eq
  | write hw => exact hw.keepsClocks

/-- The receive side has no part in the clocks. -/
theorem LineStep.keepsClocks {s t : State} (h : LineStep s t) : s.KeepsClocks t := by
  cases h with
  | idle | received _ _ | overrun _ _ _ | lost _ => exact ⟨id, id, id, id⟩

theorem settleGpio_keepsClocks (s : State) : s.KeepsClocks (settleGpio s) := by
  cases hmode : s.cfg.settleMode with
  | none => rw [settleGpio_of_none hmode]; exact .refl s
  | nondet =>
    rw [settleGpio_of_nondet hmode]
    exact ⟨id, id, fun hclk => clkGpio_iff.mpr ⟨(clkGpio_iff.mp hclk).left, rfl⟩, id⟩

theorem settleUart_keepsClocks (s : State) : s.KeepsClocks (settleUart s) := by
  cases hmode : s.cfg.settleMode with
  | none => rw [settleUart_of_none hmode]; exact .refl s
  | nondet =>
    rw [settleUart_of_nondet hmode]
    exact ⟨id, id, id, fun hclk => clkUart_iff.mpr ⟨(clkUart_iff.mp hclk).left, rfl⟩⟩

theorem AgentStep.keepsClocks {s t : State} {a : Agent} (h : AgentStep s a t) : s.KeepsClocks t := by
  cases h with
  | @instr k _ u m _ _ hb =>
    have hrun : s.KeepsClocks (s.runAs k) := .of_invPart_eq (s.invPart_runAs k)
    exact hrun.trans (hb.keepsClocks.trans (.of_invPart_eq (u.invPart_setMe m)))
  | alone m => exact .of_invPart_eq (State.invPart_setMe _ m)
  | txDrain => exact .of_invPart_eq s.invPart_txDrain
  | rxArrive => exact (rxArrive_cases s).keepsClocks
  | rxOverrun keepNew => exact (rxOverrun_cases keepNew s).keepsClocks
  | rxDrop receive keepNew => exact (rxDrop_cases receive keepNew s).keepsClocks
  | settleGpio => exact settleGpio_keepsClocks s
  | settleUart => exact settleUart_keepsClocks s

/-- Settles O13: `State.KeepsClocks` holds across the step of every agent. -/
theorem stepKeepsClocksOn : Obligations.StepKeepsClocksOn := by
  intro s t h
  have hsched : s.KeepsClocks s.scheduled := .of_invPart_eq s.invPart_scheduled
  obtain ⟨hgpioOn, huartOn, hgpioAnswers, huartAnswers⟩ := hsched.trans (step_cases h).keepsClocks
  exact ⟨hgpioOn, huartOn, hgpioAnswers, huartAnswers⟩

end Sys2Proof.Machine
end
